-- ==== Sys2Proof/Word.lean ====
section
/-! DEFINITION. The widths the manual names: bytes of the two links, 16-bit belt positions, class masks, tags. -/

namespace Sys2Proof

/-- One byte of the intake link or the lane link. -/
abbrev Byte := BitVec 8

/-- A belt position, 0..65535, wrapping (00_scope.md section 6, R42, R44). -/
abbrev Pos := BitVec 16

/-- A capture tag, 0..65535, wrapping (R50). -/
abbrev Tag := BitVec 16

/-- A class mask: bit c stands for class c (R33, R132). -/
abbrev Mask := BitVec 16

end Sys2Proof
end

