-- ==== Sys2Proof/Syntax.lean ====
section
/-! DEFINITION. The commands: one constructor of `Instr` per row of spec/opcode_table.json. -/

namespace Sys2Proof

/-- Lanes 1 to 8 in belt order (00_scope.md 7.5). -/
inductive Lane where
  | l1 | l2 | l3 | l4 | l5 | l6 | l7 | l8
  deriving DecidableEq, Repr

/-- The nine arms: a lane arm, or the reject arm (R90). The nine chute eyes go with them. -/
inductive Arm where
  | lane (n : Lane)
  | reject
  deriving DecidableEq, Repr

/-- The ten eyes: EYE_CAP, and the chute eyes EYE_L1..EYE_L8 and EYE_REJ (Section 3.2). -/
inductive Eye where
  | cap
  | chute (a : Arm)
  deriving DecidableEq, Repr

/-- A REQUEST frame accepted for sorting (R163, R165), less its request code: the source node, the
frame's tag, and the request's body. -/
structure Request where
  source : Byte
  tag : Byte
  body : List Byte
  deriving DecidableEq, Repr

/-- The commands the HL8 takes, in the order of spec/opcode_table.json. -/
inductive Instr where
  | readIdent (q : Request)
  | readStatus (q : Request)
  | clearFlags (q : Request)
  | readCounters (q : Request)
  | readRefusal (q : Request)
  | clearRefusal (q : Request)
  | setParam (q : Request)
  | readParam (q : Request)
  | setLock (q : Request)
  | loadOrder (q : Request)
  | cancelOrder (q : Request)
  | shortClose (q : Request)
  | readOrder (q : Request)
  | readPosition (q : Request)
  | loadProduct (q : Request)
  | deleteProduct (q : Request)
  | readProduct (q : Request)
  | stageRange (q : Request)
  | stageClass (q : Request)
  | readRange (q : Request)
  | readClass (q : Request)
  | advanceWave (q : Request)
  | armLanes (q : Request)
  | disarmLanes (q : Request)
  | laneEnable (q : Request)
  | laneDisable (q : Request)
  | pause (q : Request)
  | resume (q : Request)
  | lineClear (q : Request)
  | injectCapture (q : Request)
  | partReset (q : Request)
  | partResetTaken
  /-- The bytes that arrive on the intake link, up to the end of a frame. -/
  | intakeFrameReceived (bytes : List Byte)
  | intakeFrameSent
  /-- The bytes that arrive on the lane link, up to the end of a frame. -/
  | laneFrameReceived (bytes : List Byte)
  | lightFrameSent
  | encoderPulse
  /-- The eye's input takes the level `high`. -/
  | eyeInputChange (eye : Eye) (high : Bool)
  | captureExpiry
  | fire (arm : Arm)
  | dwellEnd (arm : Arm)
  | lastFireLapse (arm : Arm)
  /-- The FIRED entry with this tag. -/
  | missedDivert (tag : Tag)
  /-- The OUTBOUND entry with this tag. -/
  | exit (tag : Tag)
  | laneJam (arm : Arm)
  | lineStopAssert
  | lineStopRelease
  | pauseReqAssert
  | pauseReqRelease
  | powerOn
  | resetPin
  /-- The straps ADDR0..ADDR3 that the part reads as the reset ends. -/
  | resetEnd (straps : BitVec 4)
  deriving DecidableEq, Repr

end Sys2Proof
end

