-- ==== Sys2Proof/Decode.lean ====
section
/-! DEFINITION. Reading a command from the bits of an opcode-table row. No row of spec/opcode_table.json
gives bits (each row's "fields" is empty and none has "fixed"), so no word spells a command; requests are
read from the bytes of intake frames instead (Machine/Link.lean, R159 to R165). -/

namespace Sys2Proof

/-- The command a word spells by the table's bits: none, for the table gives no row any. -/
def decodeTableWord (_nbits _w : Nat) : Option Instr := none

end Sys2Proof
end

