-- ==== Sys2Proof/Config.lean ====
section
/-! DEFINITION. What the HL8 fixes: the sizes of its tables and lists (R178 and the rules named).
The spec leaves no result of a command undefined, so there is no free value here. -/

namespace Sys2Proof.Config

/-- Device code, R178. -/
def deviceCode : Nat := 0x0C08
/-- Revision, R178. -/
def revision : Nat := 1
/-- Order slots, R1. -/
def orderSlots : Nat := 256
/-- Recipe-line pool, R2. -/
def poolLines : Nat := 2048
/-- Catalogue records, R26. -/
def catalogueRecords : Nat := 4096
/-- Class range entries, R33. -/
def classRanges : Nat := 24
/-- Hamper classes, R34. -/
def classes : Nat := 16
/-- Lanes. -/
def lanes : Nat := 8
/-- Hamper positions of a lane. -/
def hamperPositions : Nat := 15
/-- Positions of all eight panels, 0..15 of each lane, R117. -/
def panelPositions : Nat := 128
/-- Capture list, R49. -/
def captureList : Nat := 8
/-- Belt queue, R89. -/
def beltQueue : Nat := 48
/-- Chute list of a lane, R112. -/
def chuteList : Nat := 16
/-- Recirculation records, R86. -/
def recircRecords : Nat := 64
/-- The most passes a recirculation record counts, R87. -/
def maxRecordPasses : Nat := 7
/-- Transmit queue frames, R168. -/
def txFrames : Nat := 32
/-- Event frames are queued while the queue holds this many frames or fewer, R168. -/
def txEventLimit : Nat := 23
/-- The longest intake payload, R159. -/
def maxPayload : Nat := 240
/-- Event kinds and counters, R172, R175. -/
def eventKinds : Nat := 22
/-- Counters, R175. -/
def counters : Nat := 22
/-- A counter stays at this value, R175. -/
def counterMax : Nat := 4294967295
/-- The wave counter, release count and refusal count stay at this value, R39, R130, R138. -/
def countMax16 : Nat := 65535

end Sys2Proof.Config
end

