-- ==== Sys2Proof/Machine/Blocks.lean ====
section
/-! DEFINITION. The data of the thirteen blocks (00_scope.md section 3): records, tables and lists as the
chapters give them, plain data throughout. Numbers the manual only counts or compares are `Nat`. -/

namespace Sys2Proof.Machine

/-- One value for each lane 1..8. -/
structure PerLane (α : Type) where
  l1 : α
  l2 : α
  l3 : α
  l4 : α
  l5 : α
  l6 : α
  l7 : α
  l8 : α
  deriving DecidableEq, Repr

/-- One value for each lane arm and one for the reject arm. -/
structure PerArm (α : Type) where
  lanes : PerLane α
  reject : α
  deriving DecidableEq, Repr

/-- One value for each of the ten eyes. -/
structure PerEye (α : Type) where
  cap : α
  chute : PerArm α
  deriving DecidableEq, Repr

/-! ### Order Book (Chapter 1) -/

/-- The states of a non-EMPTY slot, R1. A slot without a record is EMPTY. -/
inductive OrderState where
  | staged | queued | opened | shorting | complete | cancelled
  deriving DecidableEq, Repr

/-- A recipe line, R2. -/
structure RecipeLine where
  primary : Nat
  substitute : Option Nat
  quantity : Nat
  reserved : Nat
  placed : Nat
  deriving DecidableEq, Repr

/-- An order record in its slot, R1. `layerCounts` holds the reservation counts of layers 0..3. -/
structure Order where
  slot : Nat
  number : Nat
  cls : Nat
  dueWave : Nat
  dispatchDay : Nat
  budget : Nat
  state : OrderState
  position : Option (Lane × Nat)
  short : Bool
  lines : List RecipeLine
  placedWeight : Nat
  reservedWeight : Nat
  placedLayer : Option Nat
  layerCounts : List Nat
  deriving DecidableEq, Repr

/-- The Order Book: the non-EMPTY slots in ascending slot order, the free pool lines, the queued list. -/
structure OrderBook where
  orders : List Order
  freeLines : Nat
  queued : List Nat
  deriving DecidableEq, Repr

/-! ### Catalogue and Class Range Unit (Chapter 2) -/

/-- A product record, R26. -/
structure Product where
  code : Nat
  group : Nat
  layer : Nat
  nominal : Nat
  tolerance : Nat
  dated : Bool
  deriving DecidableEq, Repr

/-- A class range entry, active or staged, R33. -/
structure RangeEntry where
  valid : Bool
  start : Nat
  stop : Nat
  check : Mask
  primary : Mask
  substitute : Mask
  deriving DecidableEq, Repr

/-- A class entry, active or staged, R34. -/
structure ClassEntry where
  shelfDays : Nat
  layerRule : Bool
  deriving DecidableEq, Repr

/-- The kind of a candidate, R73. -/
inductive Kind where
  | primary | substitute
  deriving DecidableEq, Repr

/-- The cause of a refused permission, R36. -/
inductive Cause where
  | range (index : Nat)
  | default
  deriving DecidableEq, Repr

/-- The refusal record's contents, R38. -/
structure Refused where
  stock : Nat
  cls : Nat
  kind : Kind
  cause : Cause
  wave : Nat
  order : Nat
  deriving DecidableEq, Repr

/-- The Class Range Unit: active tables, refusal record, refusal count, more flag. -/
structure ClassRangeUnit where
  ranges : List RangeEntry
  classes : List ClassEntry
  record : Option Refused
  count : Nat
  more : Bool
  deriving DecidableEq, Repr

/-! ### Belt Position Unit and Capture Unit (Chapter 3) -/

/-- An eye's filter: its filtered level (true is blocked) and its pulse count, R46. -/
structure EyeFilter where
  blocked : Bool
  count : Nat
  deriving DecidableEq, Repr

/-- The Belt Position Unit, R42 and R46. -/
structure BeltPosition where
  phase : Nat
  p : Pos
  eyes : PerEye EyeFilter
  deriving DecidableEq, Repr

/-- A capture record, R49. -/
structure Capture where
  tag : Tag
  lead : Pos
  trail : Option Pos
  deriving DecidableEq, Repr

/-- The Capture Unit: the capture list, oldest first, and the capture tag counter (R49, R50). -/
structure CaptureUnit where
  list : List Capture
  nextTag : Tag
  deriving DecidableEq, Repr

/-- A scan record as received, R164. -/
structure Scan where
  stock : Nat
  carrier : Nat
  weight : Nat
  bestBefore : Nat
  status : Nat
  deriving DecidableEq, Repr

/-! ### Placement Engine (Chapter 4) -/

/-- What the Capture Unit hands on, R62: a pair, or an expired capture (no scan record). -/
structure Item where
  capture : Capture
  scan : Option Scan
  deriving DecidableEq, Repr

/-- A recirculation record, R86. -/
structure Recirc where
  carrier : Nat
  passes : Nat
  deriving DecidableEq, Repr

/-! ### Divert Scheduler (Chapter 5) -/

/-- A weight and whether it was estimated, R63 and R71. -/
structure Weight where
  grams : Nat
  estimated : Bool
  deriving DecidableEq, Repr

/-- Reject reasons, R84. -/
inductive RejectReason where
  | double | unknownItem | weightMismatch | passLimit | noRead
  deriving DecidableEq, Repr

/-- Recirculate reasons, R63. -/
inductive RecirculateReason where
  | armsOff | noRead | unplaceable
  deriving DecidableEq, Repr

/-- The destination of a belt-queue entry, R63 and R89. -/
inductive Dest where
  | place (lane : Lane) (position slot line : Nat) (kind : Kind)
  | voidLane (lane : Lane)
  | reject (reason : RejectReason)
  | recirculate (reason : RecirculateReason)
  deriving DecidableEq, Repr

/-- Outbound reasons, R63, R89, R96, R104, R105, R109, R19. -/
inductive OutboundReason where
  | armsOff | noRead | unplaceable | rejectBlocked | missed | jam | cancelled
  deriving DecidableEq, Repr

/-- The states of a belt-queue entry, with the fields each has, R89. -/
inductive EntryState where
  | scheduled (fire : Pos)
  | fired (fire deadline : Pos)
  | outbound (reason : OutboundReason)
  deriving DecidableEq, Repr

/-- A belt-queue entry, R63 and R89. `exitAt` is its exit position X. -/
structure Entry where
  tag : Tag
  lead : Pos
  exitAt : Pos
  stock : Option Nat
  carrier : Option Nat
  group : Option Nat
  layer : Option Nat
  weight : Option Weight
  dest : Dest
  state : EntryState
  deriving DecidableEq, Repr

/-- An arm, R90: its last fire position, and while its output is active the dwell end. `lapseDue` is the
model's mark that the latest count made the lapse of R93 due. -/
structure ArmRec where
  lastFire : Option Pos
  output : Option Pos
  lapseDue : Bool
  deriving DecidableEq, Repr

/-- The state a JAMMED lane goes back to, R100. -/
inductive ReturnState where
  | enabled | disabled
  deriving DecidableEq, Repr

/-- Lane states, R100. -/
inductive LaneState where
  | enabled | disabled
  | jammed (returnTo : ReturnState)
  deriving DecidableEq, Repr

/-- A chute eye's block start, R103. `jamDue` is the model's mark that the latest count made its jam due. -/
structure ChuteEye where
  blockStart : Option Pos
  jamDue : Bool
  deriving DecidableEq, Repr

/-- The Divert Scheduler. The schedules of R90 are read from the queue's SCHEDULED entries. -/
structure DivertScheduler where
  queue : List Entry
  arms : PerArm ArmRec
  laneStates : PerLane LaneState
  rejectJammed : Bool
  eyes : PerArm ChuteEye
  armsLive : Bool
  deriving DecidableEq, Repr

/-! ### Put Wall Controller (Chapter 6) -/

/-- The kind of a chute entry, R112; a PUT entry names its hamper position, order slot and line. -/
inductive ChuteKind where
  | put (position slot line : Nat)
  | void
  | stray
  deriving DecidableEq, Repr

/-- A chute entry, R112, with the copy of the group that R32 has pass into it (notes/assumptions/30.md). -/
structure ChuteEntry where
  kind : ChuteKind
  stock : Option Nat
  carrier : Option Nat
  group : Option Nat
  weight : Option Weight
  layer : Option Nat
  deriving DecidableEq, Repr

/-- The light of a position, R116. -/
inductive Light where
  | off | put | close | clear
  deriving DecidableEq, Repr

/-- A LIGHT frame in progress, R124. -/
structure LightFrame where
  lane : Lane
  position : Nat
  value : Light
  deriving DecidableEq, Repr

/-- The lane link's receive state, R125, with the bytes taken while collecting. -/
inductive LaneRx where
  | hunting
  | collecting (got : List Byte)
  deriving DecidableEq, Repr

/-- The Put Wall Controller. Panel positions are numbered 16 (lane - 1) + position, 0..127, the cyclic
order of R123; `marks` lists the positions whose pending mark is set. -/
structure PutWall where
  chutes : PerLane (List ChuteEntry)
  marks : List Nat
  pointer : Nat
  tx : Option LightFrame
  rx : LaneRx
  deriving DecidableEq, Repr

/-! ### Wave Unit (Chapter 7) -/

/-- The latched advance, R140. -/
inductive Latch where
  | notHeld | requested | automatic
  deriving DecidableEq, Repr

/-- The Wave Unit. -/
structure WaveUnit where
  counter : Nat
  ranges : List RangeEntry
  classes : List ClassEntry
  releases : Nat
  latch : Latch
  deriving DecidableEq, Repr

/-! ### Pause Controller (Chapter 8) -/

/-- Pause states, R150. -/
inductive PauseState where
  | running | draining | held
  deriving DecidableEq, Repr

/-- The Pause Controller. -/
structure PauseController where
  stopAsserted : Bool
  requestAsserted : Bool
  controlPause : Bool
  state : PauseState
  inductHold : Bool
  pauseAck : Bool
  deriving DecidableEq, Repr

/-! ### Intake Link Interface (Chapter 9) -/

/-- A frame of the intake link less its start byte, length and check, which its bytes give (R159, R160). -/
structure Frame where
  dest : Byte
  source : Byte
  kind : Byte
  tag : Byte
  payload : List Byte
  deriving DecidableEq, Repr

/-- The intake link's receive state, R159. `covered` holds bytes 1 to 6 + N as far as taken. -/
inductive IntakeRx where
  | hunting
  | header (covered : List Byte)
  | payload (covered : List Byte) (left : Nat)
  | check (covered : List Byte) (first : Option Byte)
  deriving DecidableEq, Repr

/-- Where an accepted PART_RESET stands, R171. -/
inductive PartResetWait where
  | idle | waiting | sent
  deriving DecidableEq, Repr

/-- The Intake Link Interface. -/
structure IntakeLink where
  node : Byte
  rx : IntakeRx
  txQueue : List Frame
  sending : Bool
  seq : Byte
  resetWait : PartResetWait
  deriving DecidableEq, Repr

/-- The result of a request, R166. -/
inductive Result where
  | ok | adjusted | badField | noSpace | duplicate | notFound | wrongState | locked
  | notPermitted | unknownRequest | busy | badLength | inconsistent
  deriving DecidableEq, Repr

/-! ### Status Unit (Chapter 10) -/

/-- Event kinds, in the order of their codes 0..21 (Section 9.8). -/
inductive EventKind where
  | captureOverrun | orphanScan | noRead | doubleItem | unknownItem | weightMismatch
  | classRefusal | passLimit | beltQueueFull | missedDivert | strayItem | wrongKey | laneJam
  | laneJamCleared | lineStop | lineRelease | pauseGranted | pauseWithdrawn | orderComplete
  | orderReleased | waveAdvanced | linkError
  deriving DecidableEq, Repr

/-- Counters, in the order of their identifiers 0..21 (R175). -/
inductive Counter where
  | captures | overruns | scansPaired | orphanScans | noReads | doubles | unknownItems
  | weightMismatches | weightEstimated | placements | rejectsDecided | recirculations | fires
  | misses | strays | puts | wrongKeys | ordersCompleted | ordersCancelled | beltQueueFulls
  | linkErrors | foreignFrames
  deriving DecidableEq, Repr

/-- The three reset kinds, R179 and R184. -/
inductive ResetKind where
  | powerOn | resetPin | partReset
  deriving DecidableEq, Repr

/-- The Status Unit: the flag word of R172 and the 22 counters of R175. -/
structure StatusUnit where
  flags : BitVec 32
  counters : List Nat
  deriving DecidableEq, Repr

/-! ### Parameter Store (Chapter 11) -/

/-- CAPTURE_POLARITY and LANE_POLARITY, R45. -/
inductive Polarity where
  | blockedHigh | blockedLow
  deriving DecidableEq, Repr

/-- DEFAULT_ALLOW, R35. -/
inductive DefaultAllow where
  | allow | refuse
  deriving DecidableEq, Repr

/-- NOREAD_ACTION, R67. -/
inductive NoReadAction where
  | recirculate | reject
  deriving DecidableEq, Repr

/-- The parameter values and the lock level, R180 and R183. -/
structure Params where
  prescale : Nat
  laneDist : PerLane Nat
  rejectDist : Nat
  exitDist : Nat
  chuteCap : PerLane Nat
  laneClasses : PerLane Mask
  capturePolarity : Polarity
  lanePolarity : Polarity
  eyeFilter : Nat
  lead : Nat
  armDwell : Nat
  armGap : Nat
  confirmWindow : Nat
  pairMin : Nat
  pairMax : Nat
  maxLen : Nat
  jamLen : Nat
  defaultAllow : DefaultAllow
  controlNode : Byte
  tunnelNode : Byte
  noReadAction : NoReadAction
  maxPasses : Nat
  distDiv : Nat
  autoWave : Nat
  autoRearm : Bool
  reportMask : BitVec 22
  lockLevel : Nat
  deriving DecidableEq, Repr

/-- The input levels the part can read at any time (00_scope.md section 4): true is high for an eye and
asserted for LINE_STOP and PAUSE_REQ. -/
structure Pins where
  eyes : PerEye Bool
  lineStop : Bool
  pauseReq : Bool
  deriving DecidableEq, Repr

end Sys2Proof.Machine
end

