-- ==== Sys2Proof/Machine/ResetValues.lean ====
section
/-! DEFINITION. The reset value of every block, as its chapter gives it (R24, R27, R33, R34, R38, R42, R48,
R61, R86, R111, R129, R142, R147, R150, R159, R168, R169, R172, R175, R180), and the same value everywhere. -/

namespace Sys2Proof.Machine

/-- The same value for every lane. -/
def PerLane.all {α : Type} (x : α) : PerLane α := ⟨x, x, x, x, x, x, x, x⟩

/-- The same value for every arm. -/
def PerArm.all {α : Type} (x : α) : PerArm α := ⟨PerLane.all x, x⟩

/-- The same value for every eye. -/
def PerEye.all {α : Type} (x : α) : PerEye α := ⟨x, PerArm.all x⟩

/-- R24: all slots EMPTY, all pool lines free, nothing queued, nothing bound. -/
def OrderBook.reset : OrderBook := { orders := [], freeLines := Config.poolLines, queued := [] }

/-- R33, R131: valid no, start 0, end 15, masks 0. -/
def RangeEntry.reset : RangeEntry :=
  { valid := false, start := 0, stop := 15, check := 0, primary := 0, substitute := 0 }

/-- R34, R134: 0 minimum shelf days, layer rule on. -/
def ClassEntry.reset : ClassEntry := { shelfDays := 0, layerRule := true }

/-- The range table after a reset, R33 and R131. -/
def resetRanges : List RangeEntry := List.replicate Config.classRanges RangeEntry.reset

/-- The class table after a reset, R34 and R134. -/
def resetClasses : List ClassEntry := List.replicate Config.classes ClassEntry.reset

/-- R33, R34, R38. -/
def ClassRangeUnit.reset : ClassRangeUnit :=
  { ranges := resetRanges, classes := resetClasses, record := none, count := 0, more := false }

/-- R42, R48: P 0, phase 0, every filtered level clear, every pulse count 0. -/
def BeltPosition.reset : BeltPosition :=
  { phase := 0, p := 0, eyes := PerEye.all { blocked := false, count := 0 } }

/-- R61: list empty, tag counter 0. -/
def CaptureUnit.reset : CaptureUnit := { list := [], nextTag := 0 }

/-- An arm with no last fire position and an inactive output, R90. -/
def ArmRec.reset : ArmRec := { lastFire := none, output := none, lapseDue := false }

/-- R111: everything empty, absent, inactive or ENABLED, and ARMS_LIVE clear. -/
def DivertScheduler.reset : DivertScheduler :=
  { queue := [], arms := PerArm.all ArmRec.reset, laneStates := PerLane.all .enabled,
    rejectJammed := false, eyes := PerArm.all { blockStart := none, jamDue := false },
    armsLive := false }

/-- R129: chute lists empty, all 128 marks set, pointer at lane 8 position 15, idle, hunting. -/
def PutWall.reset : PutWall :=
  { chutes := PerLane.all [], marks := List.range Config.panelPositions, pointer := 127,
    tx := none, rx := .hunting }

/-- R142. -/
def WaveUnit.reset : WaveUnit :=
  { counter := 0, ranges := resetRanges, classes := resetClasses, releases := 0,
    latch := .notHeld }

/-- R147, R150: control pause flag set, HELD, INDUCT_HOLD and PAUSE_ACK asserted; the stop state and the
request state are those of the inputs (R143, R147). -/
def PauseController.reset (stop request : Bool) : PauseController :=
  { stopAsserted := stop, requestAsserted := request, controlPause := true, state := .held,
    inductHold := true, pauseAck := true }

/-- R159, R168, R169, R171, with the node number of R161. -/
def IntakeLink.reset (node : Byte) : IntakeLink :=
  { node := node, rx := .hunting, txQueue := [], sending := false, seq := 0, resetWait := .idle }

/-- R161: the node number is 0x40 plus the straps. -/
def nodeOfStraps (straps : BitVec 4) : Byte := 0x40 + straps.zeroExtend 8

/-- R172, R175, with the flag word that the reset kind leaves (R179). -/
def StatusUnit.reset (flags : BitVec 32) : StatusUnit :=
  { flags := flags, counters := List.replicate Config.counters 0 }

/-- The defaults of R180's table, lock level 0. -/
def Params.reset : Params :=
  { prescale := 4
    laneDist := ⟨1500, 3000, 4500, 6000, 7500, 9000, 10500, 12000⟩
    rejectDist := 13500
    exitDist := 15000
    chuteCap := PerLane.all 6
    laneClasses := PerLane.all 0xFFFF
    capturePolarity := .blockedHigh
    lanePolarity := .blockedHigh
    eyeFilter := 2
    lead := 24
    armDwell := 20
    armGap := 40
    confirmWindow := 120
    pairMin := 200
    pairMax := 900
    maxLen := 160
    jamLen := 400
    defaultAllow := .allow
    controlNode := 0x01
    tunnelNode := 0x10
    noReadAction := .recirculate
    maxPasses := 3
    distDiv := 128
    autoWave := 0
    autoRearm := false
    reportMask := 0x3FFFFF
    lockLevel := 0 }

/-- The input levels that `State.reset` starts from: eyes low, LINE_STOP and PAUSE_REQ released.
DESIGN CHOICE (notes/assumptions/8.md), unsafe: the spec gives no input levels. -/
def Pins.released : Pins := { eyes := PerEye.all false, lineStop := false, pauseReq := false }

end Sys2Proof.Machine
end

