-- ==== Sys2Proof/Machine/State.lean ====
section
/-! DEFINITION. The state of the HL8: its blocks, its pins, and the queue of commands waiting. -/

namespace Sys2Proof.Machine

/-- Why a step stops with a fault. It has no constructor: the spec gives every command an effect in every
state (INVENTORY.md, "Faults"). -/
inductive Fault where
  deriving DecidableEq, Repr

/-- Why a command has no meaning. -/
inductive Refusal where
  /-- A command not yet modelled; no arm of `exec` answers it. Safe: nothing is claimed of it. -/
  | notModelled (mnemonic : String)
  deriving DecidableEq, Repr

/-- The HL8. -/
structure State where
  /-- The commands waiting, first in, first out (the model's own). -/
  pending : List Instr
  /-- The part is held in reset, R184. -/
  inReset : Bool
  /-- The input levels. -/
  pins : Pins
  link : IntakeLink
  belt : BeltPosition
  capture : CaptureUnit
  /-- The product table, ascending stock code, R26. -/
  catalogue : List Product
  ranges : ClassRangeUnit
  book : OrderBook
  /-- The recirculation table, oldest first, R86. -/
  recirc : List Recirc
  divert : DivertScheduler
  wall : PutWall
  wave : WaveUnit
  pause : PauseController
  status : StatusUnit
  params : Params
  deriving DecidableEq, Repr

/-- The machine right after a power-on reset has ended, with the straps at 0 and every input released or
low (DESIGN CHOICE, notes/assumptions/8.md): every block at its reset value, the POWER_ON cause set
(R179), and the first LIGHT frame, for lane 1 position 0, begun (R129, R184). -/
def State.reset : State :=
  { pending := []
    inReset := false
    pins := Pins.released
    link := IntakeLink.reset (nodeOfStraps 0)
    belt := BeltPosition.reset
    capture := CaptureUnit.reset
    catalogue := []
    ranges := ClassRangeUnit.reset
    book := OrderBook.reset
    recirc := []
    divert := DivertScheduler.reset
    wall :=
      { PutWall.reset with
        marks := (List.range Config.panelPositions).filter (fun i => i != 0)
        pointer := 0
        tx := some { lane := .l1, position := 0, value := .off } }
    wave := WaveUnit.reset
    pause := PauseController.reset false false
    status := StatusUnit.reset 0x01000000
    params := Params.reset }

end Sys2Proof.Machine
end

