-- ==== Sys2Proof/Machine/Operands.lean ====
section
/-! DEFINITION. Reading and writing the fields of frames: byte order (00_scope.md 7.2, high byte first), the
check of R160, the codes of Section 9.8, and access to the per-lane, per-arm and per-eye records. -/

namespace Sys2Proof.Machine

/-! ### Bytes -/

/-- The number that bytes give, high byte first (7.2). -/
def be (bytes : List Byte) : Nat := bytes.foldl (fun n b => 256 * n + b.toNat) 0

/-- A number as `width` bytes, high byte first (7.2). -/
def toBytes : (width : Nat) → (value : Nat) → List Byte
  | 0, _ => []
  | k + 1, v => BitVec.ofNat 8 (v / 256 ^ k) :: toBytes k v

/-- The field of `width` bytes at byte `start` of a body. -/
def fieldAt (body : List Byte) (start width : Nat) : Nat := be ((body.drop start).take width)

/-- A yes/no field of a response body (Section 9.8): 1 set, yes or on. -/
def flagNat (b : Bool) : Nat := if b then 1 else 0

/-- One bit of the check, R160 step 3. -/
def crcBit (reg : BitVec 16) (bit : Bool) : BitVec 16 :=
  if reg.msb == bit then reg <<< 1 else (reg <<< 1) ^^^ 0x1021

/-- One byte of the check, high bit first, R160 step 2. -/
def crcByte (reg : BitVec 16) (b : Byte) : BitVec 16 :=
  [7, 6, 5, 4, 3, 2, 1, 0].foldl (fun r i => crcBit r (b.getLsbD i)) reg

/-- The check of both links, R160. -/
def crc (bytes : List Byte) : BitVec 16 := bytes.foldl crcByte 0xFFFF

/-- The check's two bytes, high byte first. -/
def crcBytes (bytes : List Byte) : List Byte := toBytes 2 (crc bytes).toNat

/-- Bytes 1 to 6 + N of a frame. -/
def Frame.covered (f : Frame) : List Byte :=
  [f.dest, f.source, f.kind, f.tag] ++ toBytes 2 f.payload.length ++ f.payload

/-- The bytes of an intake frame as they cross the link (Section 9.8). -/
def Frame.bytes (f : Frame) : List Byte := 0xA5 :: (f.covered ++ crcBytes f.covered)

/-! ### Distances -/

/-- The distance ahead from a to b, R44: 0..65535. -/
def ahead (a b : Pos) : Nat := (b - a).toNat

/-- The position d counts beyond a, R44. -/
def beyond (a : Pos) (d : Nat) : Pos := a + BitVec.ofNat 16 d

/-- The smaller of the two distances between positions, R78. -/
def nearer (a b : Pos) : Nat := min (ahead a b) (ahead b a)

/-! ### Lanes, arms and eyes -/

/-- A lane's number, 1..8. -/
def laneNumber : Lane → Nat
  | .l1 => 1 | .l2 => 2 | .l3 => 3 | .l4 => 4 | .l5 => 5 | .l6 => 6 | .l7 => 7 | .l8 => 8

/-- The lane of a number, none outside 1..8. -/
def laneOf : Nat → Option Lane
  | 1 => some .l1 | 2 => some .l2 | 3 => some .l3 | 4 => some .l4
  | 5 => some .l5 | 6 => some .l6 | 7 => some .l7 | 8 => some .l8
  | _ => none

/-- The lanes in ascending order. -/
def allLanes : List Lane := [.l1, .l2, .l3, .l4, .l5, .l6, .l7, .l8]

/-- The arms, lane arms first. -/
def allArms : List Arm := allLanes.map .lane ++ [.reject]

/-- The eyes: EYE_CAP, EYE_L1..EYE_L8, EYE_REJ. -/
def allEyes : List Eye := .cap :: allArms.map .chute

/-- The lane field of event frames for an arm: 9 stands for the reject arm (7.5). -/
def armNumber : Arm → Nat
  | .lane n => laneNumber n
  | .reject => 9

def PerLane.get {α : Type} (v : PerLane α) : Lane → α
  | .l1 => v.l1 | .l2 => v.l2 | .l3 => v.l3 | .l4 => v.l4
  | .l5 => v.l5 | .l6 => v.l6 | .l7 => v.l7 | .l8 => v.l8

def PerLane.set {α : Type} (v : PerLane α) (n : Lane) (x : α) : PerLane α :=
  match n with
  | .l1 => { v with l1 := x } | .l2 => { v with l2 := x }
  | .l3 => { v with l3 := x } | .l4 => { v with l4 := x }
  | .l5 => { v with l5 := x } | .l6 => { v with l6 := x }
  | .l7 => { v with l7 := x } | .l8 => { v with l8 := x }

def PerLane.map {α β : Type} (f : α → β) (v : PerLane α) : PerLane β :=
  ⟨f v.l1, f v.l2, f v.l3, f v.l4, f v.l5, f v.l6, f v.l7, f v.l8⟩

def PerLane.toList {α : Type} (v : PerLane α) : List α := allLanes.map v.get

def PerArm.get {α : Type} (v : PerArm α) : Arm → α
  | .lane n => v.lanes.get n
  | .reject => v.reject

def PerArm.set {α : Type} (v : PerArm α) (a : Arm) (x : α) : PerArm α :=
  match a with
  | .lane n => { v with lanes := v.lanes.set n x }
  | .reject => { v with reject := x }

def PerArm.map {α β : Type} (f : α → β) (v : PerArm α) : PerArm β := ⟨v.lanes.map f, f v.reject⟩

def PerEye.get {α : Type} (v : PerEye α) : Eye → α
  | .cap => v.cap
  | .chute a => v.chute.get a

def PerEye.set {α : Type} (v : PerEye α) (e : Eye) (x : α) : PerEye α :=
  match e with
  | .cap => { v with cap := x }
  | .chute a => { v with chute := v.chute.set a x }

def PerEye.map {α β : Type} (f : α → β) (v : PerEye α) : PerEye β := ⟨f v.cap, v.chute.map f⟩

/-! ### Codes of Section 9.8 -/

/-- Result codes, R166. -/
def Result.code : Result → Byte
  | .ok => 0x00 | .adjusted => 0x01 | .badField => 0x10 | .noSpace => 0x11 | .duplicate => 0x12
  | .notFound => 0x13 | .wrongState => 0x14 | .locked => 0x15 | .notPermitted => 0x16
  | .unknownRequest => 0x17 | .busy => 0x18 | .badLength => 0x19 | .inconsistent => 0x1A

/-- Order state codes; EMPTY is 0. -/
def OrderState.code : OrderState → Nat
  | .staged => 1 | .queued => 2 | .opened => 3 | .shorting => 4 | .complete => 5 | .cancelled => 6

def ReturnState.code : ReturnState → Nat
  | .enabled => 0 | .disabled => 1

def LaneState.code : LaneState → Nat
  | .enabled => 0 | .disabled => 1 | .jammed _ => 2

/-- The return-state byte: 0xFF when not JAMMED. -/
def LaneState.returnCode : LaneState → Nat
  | .jammed r => r.code
  | _ => 0xFF

def PauseState.code : PauseState → Nat
  | .running => 0 | .draining => 1 | .held => 2

def Light.code : Light → Nat
  | .off => 0 | .put => 1 | .close => 2 | .clear => 3

def Latch.code : Latch → Nat
  | .notHeld => 0 | .requested => 1 | .automatic => 2

def Kind.code : Kind → Nat
  | .primary => 0 | .substitute => 1

/-- The cause byte: a range index, or 0xFF for DEFAULT (R39, R40). -/
def Cause.code : Cause → Nat
  | .range i => i
  | .default => 0xFF

/-- Event kind codes. -/
def EventKind.code : EventKind → Nat
  | .captureOverrun => 0 | .orphanScan => 1 | .noRead => 2 | .doubleItem => 3 | .unknownItem => 4
  | .weightMismatch => 5 | .classRefusal => 6 | .passLimit => 7 | .beltQueueFull => 8
  | .missedDivert => 9 | .strayItem => 10 | .wrongKey => 11 | .laneJam => 12
  | .laneJamCleared => 13 | .lineStop => 14 | .lineRelease => 15 | .pauseGranted => 16
  | .pauseWithdrawn => 17 | .orderComplete => 18 | .orderReleased => 19 | .waveAdvanced => 20
  | .linkError => 21

/-- Counter identifiers, R175. -/
def Counter.id : Counter → Nat
  | .captures => 0 | .overruns => 1 | .scansPaired => 2 | .orphanScans => 3 | .noReads => 4
  | .doubles => 5 | .unknownItems => 6 | .weightMismatches => 7 | .weightEstimated => 8
  | .placements => 9 | .rejectsDecided => 10 | .recirculations => 11 | .fires => 12 | .misses => 13
  | .strays => 14 | .puts => 15 | .wrongKeys => 16 | .ordersCompleted => 17
  | .ordersCancelled => 18 | .beltQueueFulls => 19 | .linkErrors => 20 | .foreignFrames => 21

/-! ### Lists -/

/-- Change the first element that satisfies `p`. -/
def changeFirst {α : Type} (p : α → Bool) (f : α → α) : List α → List α
  | [] => []
  | x :: xs => if p x then f x :: xs else x :: changeFirst p f xs

end Sys2Proof.Machine
end

