-- ==== Sys2Proof/Machine/Flags.lean ====
section
/-! DEFINITION. The flag word of R172, the reset-cause flags of R179 and the counters of R175. -/

namespace Sys2Proof.Machine

/-- The flag word with bit i alone set. -/
def flagBit (i : Nat) : BitVec 32 := 1#32 <<< i

/-- The bits of the flag word that hold a flag: 0..21 and 24..26 (R172). -/
def flagBits : BitVec 32 := 0x073FFFFF

/-- The sticky flag of an event kind is set, R172. -/
def setFlag (k : EventKind) (flags : BitVec 32) : BitVec 32 := flags ||| flagBit k.code

/-- CLEAR_FLAGS, R174: the flags the mask selects are cleared; other mask bits are ignored. -/
def clearFlags (mask flags : BitVec 32) : BitVec 32 := flags &&& ~~~(mask &&& flagBits)

/-- The reset-cause bits of a flag word, R172. -/
def causeBits (flags : BitVec 32) : BitVec 32 := flags &&& 0x07000000

/-- The flag word after a reset is taken, R172 and R179: the event flags are cleared; power-on sets
POWER_ON and clears the other causes, and the other kinds set their own and keep the rest. -/
def resetFlags : ResetKind → BitVec 32 → BitVec 32
  | .powerOn, _ => flagBit 24
  | .resetPin, flags => causeBits flags ||| flagBit 25
  | .partReset, flags => causeBits flags ||| flagBit 26

/-- One increase of a counter, R175: it stays at its greatest value. -/
def bump (v : Nat) : Nat := if v < Config.counterMax then v + 1 else v

/-- One increase of a 16-bit count that stays at 65535 (R39, R130, R138). -/
def bump16 (v : Nat) : Nat := if v < Config.countMax16 then v + 1 else v

/-- The counters after an increase of one of them. -/
def countIn (c : Counter) (counters : List Nat) : List Nat := counters.modify c.id bump

/-- The counters after the run of `n` from `first` has been read and cleared, R176. -/
def clearRun (first n : Nat) (counters : List Nat) : List Nat :=
  counters.take first ++ List.replicate ((counters.drop first).take n).length 0 ++
    counters.drop (first + n)

end Sys2Proof.Machine
end

