-- ==== Sys2Proof/Machine/Ops.lean ====
section
/-! DEFINITION. The operations every block shares: updating one block of the state, counting, reporting
(R169, R172, R173), queueing frames (R168), and the reset of every block (R184). -/

namespace Sys2Proof.Machine

/-! ### One block of the state at a time -/

def State.onPins (s : State) (f : Pins → Pins) : State := { s with pins := f s.pins }
def State.onLink (s : State) (f : IntakeLink → IntakeLink) : State := { s with link := f s.link }
def State.onBelt (s : State) (f : BeltPosition → BeltPosition) : State :=
  { s with belt := f s.belt }
def State.onCapture (s : State) (f : CaptureUnit → CaptureUnit) : State :=
  { s with capture := f s.capture }
def State.onCatalogue (s : State) (f : List Product → List Product) : State :=
  { s with catalogue := f s.catalogue }
def State.onRanges (s : State) (f : ClassRangeUnit → ClassRangeUnit) : State :=
  { s with ranges := f s.ranges }
def State.onBook (s : State) (f : OrderBook → OrderBook) : State := { s with book := f s.book }
def State.onRecirc (s : State) (f : List Recirc → List Recirc) : State :=
  { s with recirc := f s.recirc }
def State.onDivert (s : State) (f : DivertScheduler → DivertScheduler) : State :=
  { s with divert := f s.divert }
def State.onWall (s : State) (f : PutWall → PutWall) : State := { s with wall := f s.wall }
def State.onWave (s : State) (f : WaveUnit → WaveUnit) : State := { s with wave := f s.wave }
def State.onPause (s : State) (f : PauseController → PauseController) : State :=
  { s with pause := f s.pause }
def State.onStatus (s : State) (f : StatusUnit → StatusUnit) : State :=
  { s with status := f s.status }
def State.onParams (s : State) (f : Params → Params) : State := { s with params := f s.params }

/-- The belt position P, R42. -/
def State.p (s : State) : Pos := s.belt.p

/-! ### Counters and reports -/

/-- A counter is increased, R175. -/
def count (c : Counter) (s : State) : State :=
  s.onStatus fun u => { u with counters := countIn c u.counters }

/-- What a rule reports, R169; the position counter is P and the wave is the wave counter. A field left
out is none. -/
structure Report where
  kind : EventKind
  detail : Nat := 0
  lane : Nat := 0
  position : Option Nat := none
  order : Nat := 0
  stock : Nat := 0
  carrier : Nat := 0
  deriving DecidableEq, Repr

/-- The 17-byte event payload of Section 9.8. -/
def eventPayload (r : Report) (s : State) : List Byte :=
  toBytes 1 r.kind.code ++ toBytes 1 r.detail ++ toBytes 2 s.wave.counter ++ toBytes 2 s.p.toNat ++
    toBytes 1 r.lane ++ toBytes 1 (r.position.getD 0xFF) ++ toBytes 4 r.order ++ toBytes 3 r.stock ++
    toBytes 2 r.carrier

/-- The event frame of a report, R169. -/
def eventFrame (r : Report) (s : State) : Frame :=
  { dest := s.params.controlNode, source := s.link.node, kind := 0x20, tag := s.link.seq,
    payload := eventPayload r s }

/-- A frame joins the transmit queue; an idle transmitter begins the oldest, R168. -/
def queueFrame (f : Frame) (s : State) : State :=
  s.onLink fun l => { l with txQueue := l.txQueue ++ [f], sending := true }

/-- An event frame is offered, R169: it takes a sequence number, and is queued while the queue holds 23
frames or fewer (R168) and no PART_RESET response waits (R171); otherwise it is lost. -/
def offerEvent (r : Report) (s : State) : State :=
  let f := eventFrame r s
  let s := s.onLink fun l => { l with seq := l.seq + 1 }
  if s.link.txQueue.length ≤ Config.txEventLimit ∧ s.link.resetWait = .idle then queueFrame f s
  else s

/-- A report, R173: its flag is set, and an event frame is offered if REPORT_MASK has its bit. -/
def report (r : Report) (s : State) : State :=
  let s := s.onStatus fun u => { u with flags := setFlag r.kind u.flags }
  if s.params.reportMask.getLsbD r.kind.code then offerEvent r s else s

/-- A LINK_ERROR report with its counter (table of Section 9.3). -/
def linkError (detail : Nat) (s : State) : State :=
  count .linkErrors (report { kind := .linkError, detail := detail } s)

/-! ### What a request gives back -/

/-- What the owner of a request gives: the state it leaves, the result, and the response body. -/
structure Answer where
  state : State
  result : Result
  body : List Byte
  deriving DecidableEq, Repr

/-- A refusal: no state changes and no body, R166. -/
def Answer.refuse (s : State) (r : Result) : Answer := { state := s, result := r, body := [] }

/-- Performed as sent. -/
def Answer.ok (s : State) (body : List Byte) : Answer := { state := s, result := .ok, body := body }

/-- Performed, ADJUSTED when a value was clamped or rounded. -/
def Answer.done (s : State) (adjusted : Bool) (body : List Byte) : Answer :=
  { state := s, result := if adjusted then .adjusted else .ok, body := body }

/-! ### Resets -/

/-- A reset of the given kind is taken, R184: every block takes its reset value, the reset-cause flags act
by R179, and the part is held in reset. The node number, the stop state and the request state are read
as the reset ends. -/
def takeReset (k : ResetKind) (s : State) : State :=
  { pending := s.pending
    inReset := true
    pins := s.pins
    link := IntakeLink.reset s.link.node
    belt := BeltPosition.reset
    capture := CaptureUnit.reset
    catalogue := []
    ranges := ClassRangeUnit.reset
    book := OrderBook.reset
    recirc := []
    divert := DivertScheduler.reset
    wall := PutWall.reset
    wave := WaveUnit.reset
    pause := PauseController.reset s.pause.stopAsserted s.pause.requestAsserted
    status := StatusUnit.reset (resetFlags k s.status.flags)
    params := Params.reset }

/-- An event is taken, but not while the part is held in reset (R184). -/
def unlessInReset (f : State → State) (s : State) : State := if s.inReset then s else f s

end Sys2Proof.Machine
end

