-- ==== Sys2Proof/Machine/Accounts.lean ====
section
/-! DEFINITION. The Order Book's own operations (Chapter 1): looking orders up, the reservation accounts
(R11 to R16), the queued list (R6), the binder (R7) and promotion (R9). -/

namespace Sys2Proof.Machine

/-! ### Looking up -/

/-- The order with a number, R1. -/
def OrderBook.byNumber (b : OrderBook) (number : Nat) : Option Order :=
  b.orders.find? fun o => o.number == number

/-- The order in a slot; none while the slot is EMPTY. -/
def OrderBook.atSlot (b : OrderBook) (slot : Nat) : Option Order :=
  b.orders.find? fun o => o.slot == slot

/-- The order bound to a hamper position, R8. -/
def OrderBook.boundAt (b : OrderBook) (lane : Lane) (position : Nat) : Option Order :=
  b.orders.find? fun o => o.position == some (lane, position)

/-- Change the order in a slot. -/
def OrderBook.change (b : OrderBook) (slot : Nat) (f : Order → Order) : OrderBook :=
  { b with orders := b.orders.map fun o => if o.slot = slot then f o else o }

/-- The number of the order in a slot, 0 while it is EMPTY. -/
def OrderBook.numberAt (b : OrderBook) (slot : Nat) : Nat := ((b.atSlot slot).map (·.number)).getD 0

/-- The lowest-numbered EMPTY slot, R5. -/
def OrderBook.freeSlot (b : OrderBook) : Option Nat :=
  (List.range Config.orderSlots).find? fun i => b.orders.all fun o => o.slot != i

/-- An order enters its slot and takes its lines from the pool, R2 and R5. -/
def OrderBook.enter (b : OrderBook) (o : Order) : OrderBook :=
  { b with
    orders := b.orders.takeWhile (fun x => x.slot < o.slot) ++ o ::
      b.orders.dropWhile (fun x => x.slot < o.slot)
    freeLines := b.freeLines - o.lines.length }

/-- A slot becomes EMPTY: the order's lines go back to the pool (R2) and it leaves the queued list. -/
def OrderBook.empty (b : OrderBook) (o : Order) : OrderBook :=
  { orders := b.orders.filter fun x => x.slot != o.slot
    freeLines := b.freeLines + o.lines.length
    queued := b.queued.filter fun i => i != o.slot }

/-! ### Sums and derived values -/

/-- A line's remaining count, R2. -/
def RecipeLine.remaining (l : RecipeLine) : Nat := l.quantity - (l.reserved + l.placed)

/-- The sum of the lines' reserved counts, R15. -/
def Order.reservations (o : Order) : Nat := (o.lines.map (·.reserved)).sum

/-- Committed units: reserved and placed over all lines. -/
def Order.committed (o : Order) : Nat := (o.lines.map fun l => l.reserved + l.placed).sum

/-- Total units: the sum of the line quantities. -/
def Order.total (o : Order) : Nat := (o.lines.map (·.quantity)).sum

/-- The highest of layers 0..n-1 whose count is not 0; 0 when there is none. -/
def highestLayer (counts : List Nat) : Nat → Nat
  | 0 => 0
  | n + 1 => if counts.getD n 0 ≠ 0 then n else highestLayer counts n

/-- The layer level, R14. -/
def Order.layerLevel (o : Order) : Nat := max (o.placedLayer.getD 0) (highestLayer o.layerCounts 4)

/-! ### The three operations on the accounts -/

/-- R11. -/
def Order.reserve (o : Order) (line w l : Nat) : Order :=
  { o with
    lines := o.lines.modify line fun x => { x with reserved := x.reserved + 1 }
    reservedWeight := o.reservedWeight + w
    layerCounts := o.layerCounts.modify l (· + 1) }

/-- R13. -/
def Order.release (o : Order) (line w l : Nat) : Order :=
  { o with
    lines := o.lines.modify line fun x => { x with reserved := x.reserved - 1 }
    reservedWeight := o.reservedWeight - w
    layerCounts := o.layerCounts.modify l (· - 1) }

/-- R12: the unit and its weight move from reserved to placed, and the placed layer does not fall. -/
def Order.confirm (o : Order) (line w l : Nat) : Order :=
  { o with
    lines := o.lines.modify line fun x =>
      { x with reserved := x.reserved - 1, placed := x.placed + 1 }
    reservedWeight := o.reservedWeight - w
    placedWeight := o.placedWeight + w
    layerCounts := o.layerCounts.modify l (· - 1)
    placedLayer := some (max (o.placedLayer.getD 0) l) }

/-- Entry to COMPLETE, R16: reported and counted. -/
def enterComplete (o : Order) (short : Bool) (s : State) : State :=
  let s := s.onBook fun b => b.change o.slot fun x => { x with state := .complete, short := short }
  count .ordersCompleted (report
    { kind := .orderComplete, detail := flagNat short
      lane := (o.position.map fun p => laneNumber p.1).getD 0
      position := o.position.map (·.2), order := o.number } s)

/-- Whether every line's placed count equals its quantity, R16. -/
def Order.filled (o : Order) : Bool := o.lines.all fun l => l.placed == l.quantity

/-- The complete-check, R16. -/
def completeCheck (slot : Nat) (s : State) : State :=
  match s.book.atSlot slot with
  | none => s
  | some o =>
    match o.state with
    | .opened => if o.filled then enterComplete o false s else s
    | .shorting => if o.reservations = 0 then enterComplete o true s else s
    | _ => s

/-- A reserve from the Placement Engine, R11. -/
def reserve (slot line w l : Nat) (s : State) : State :=
  s.onBook fun b => b.change slot fun o => o.reserve line w l

/-- A confirm from the Put Wall Controller, R12. -/
def confirm (slot line w l : Nat) (s : State) : State :=
  completeCheck slot (s.onBook fun b => b.change slot fun o => o.confirm line w l)

/-- A release, R13. -/
def release (slot line w l : Nat) (s : State) : State :=
  completeCheck slot (s.onBook fun b => b.change slot fun o => o.release line w l)

/-! ### The queued list and the binder -/

/-- The due wave of the order in a slot. -/
def OrderBook.dueWaveOf (b : OrderBook) (slot : Nat) : Nat :=
  ((b.atSlot slot).map (·.dueWave)).getD 0

/-- A slot joins the queued list after every entry of equal or lower due wave, R6. -/
def joinQueue (b : OrderBook) (slot due : Nat) : List Nat :=
  b.queued.takeWhile (fun i => b.dueWaveOf i ≤ due) ++ slot ::
    b.queued.dropWhile (fun i => b.dueWaveOf i ≤ due)

/-- An order enters QUEUED and joins the queued list, R6. -/
def OrderBook.enqueue (b : OrderBook) (o : Order) : OrderBook :=
  { b.change o.slot (fun x => { x with state := .queued }) with
    queued := joinQueue b o.slot o.dueWave }

/-- The first order of the queued list whose class is in a mask, R7 step 2. -/
def OrderBook.firstOfClasses (b : OrderBook) (mask : Mask) : Option Nat :=
  b.queued.find? fun i => ((b.atSlot i).map fun o => mask.getLsbD o.cls).getD false

/-- An order is bound to a position, enters OPEN and leaves the queued list, R7 step 3. -/
def OrderBook.bind (b : OrderBook) (slot : Nat) (lane : Lane) (position : Nat) : OrderBook :=
  { b.change slot (fun o => { o with state := .opened, position := some (lane, position) }) with
    queued := b.queued.filter fun i => i != slot }

/-- The hamper positions 1..15 of the eight lanes, in the binder's order, R7 step 1. -/
def hamperPositions : List (Lane × Nat) :=
  allLanes.flatMap fun n => (List.range Config.hamperPositions).map fun i => (n, i + 1)

/-- The binder at one position, R7: a free position of an ENABLED lane takes the first queued order whose
class is in the lane's LANE_CLASSES. -/
def bindStep (enabled : Lane → Bool) (classes : Lane → Mask) (b : OrderBook) (at_ : Lane × Nat) :
    OrderBook :=
  if enabled at_.1 ∧ (b.boundAt at_.1 at_.2).isNone then
    match b.firstOfClasses (classes at_.1) with
    | none => b
    | some slot => b.bind slot at_.1 at_.2
  else b

/-- Whether a lane is ENABLED, R100. -/
def State.laneEnabled (s : State) (n : Lane) : Bool := s.divert.laneStates.get n == .enabled

/-- A run of the binder, R7. -/
def runBinder (s : State) : State :=
  s.onBook fun b => hamperPositions.foldl (bindStep s.laneEnabled s.params.laneClasses.get) b

/-- The STAGED orders, in ascending slot order. -/
def OrderBook.staged (b : OrderBook) : List Order := b.orders.filter fun o => o.state == .staged

/-- Promotion, R9: every STAGED order joins the queued list in ascending slot order, and the binder runs
once if there was one. -/
def promote (s : State) : State :=
  if s.book.staged = [] then s
  else runBinder (s.onBook fun b => b.staged.foldl OrderBook.enqueue b)

end Sys2Proof.Machine
end

