-- ==== Sys2Proof/Machine/Pausing.lean ====
section
/-! DEFINITION. The operations of the Wave Unit (R136 to R140) and of the Pause Controller (R147 to R154) that
other blocks use: the advance, the automatic trigger, and the moves of the pause state. -/

namespace Sys2Proof.Machine

/-! ### The advance -/

/-- Activation, R137: both staged tables are copied whole into the active ones. -/
def activate (s : State) : State :=
  s.onRanges fun u => { u with ranges := s.wave.ranges, classes := s.wave.classes }

/-- An advance, R136, reported with its detail. -/
def advance (detail : Nat) (s : State) : State :=
  let s := s.onWave fun w => { w with counter := bump16 w.counter, releases := 0, latch := .notHeld }
  report { kind := .waveAdvanced, detail := detail } (promote (activate s))

/-- The move to RUNNING reaches the Wave Unit, which performs a latched advance, R140. -/
def performLatched (s : State) : State :=
  match s.wave.latch with
  | .notHeld => s
  | .requested => advance 2 s
  | .automatic => advance 3 s

/-- A position release reaches the Wave Unit, R138: the release count rises, and at AUTO_WAVE an advance
is performed, or latched while HELD, unless a latch is held. -/
def countRelease (s : State) : State :=
  let s := s.onWave fun w => { w with releases := bump16 w.releases }
  if s.params.autoWave ≠ 0 ∧ s.params.autoWave ≤ s.wave.releases ∧ s.wave.latch = .notHeld then
    if s.pause.state = .held then s.onWave fun w => { w with latch := .automatic }
    else advance 1 s
  else s

/-! ### The pause state -/

/-- The pause is wanted, R147. -/
def PauseController.wanted (c : PauseController) : Bool := c.requestAsserted || c.controlPause

/-- A move of the pause state with the outputs it drives, R150. -/
def PauseController.move (c : PauseController) (st : PauseState) : PauseController :=
  { c with state := st, inductHold := st != .running, pauseAck := st == .held }

/-- The detail of PAUSE_GRANTED, R152. -/
def PauseController.grantDetail (c : PauseController) : Nat :=
  match c.controlPause, c.requestAsserted with
  | true, false => 1
  | false, true => 2
  | _, _ => 3

/-- The drain condition, R152. -/
def State.drained (s : State) : Bool := s.capture.list.isEmpty && s.divert.queue.isEmpty

/-- The drain condition is tested while DRAINING; when it holds, the state becomes HELD and PAUSE_GRANTED
is reported, R152. -/
def drainTest (s : State) : State :=
  if s.pause.state = .draining ∧ s.drained then
    report { kind := .pauseGranted, detail := s.pause.grantDetail }
      (s.onPause fun c => c.move .held)
  else s

/-- The pause becomes wanted, R151. -/
def pauseWanted (s : State) : State :=
  if s.pause.state = .running then drainTest (s.onPause fun c => c.move .draining) else s

/-- The pause stops being wanted, R153; `detail` is that of PAUSE_WITHDRAWN. -/
def pauseUnwanted (detail : Nat) (s : State) : State :=
  match s.pause.state with
  | .running => s
  | .draining =>
    performLatched (report { kind := .pauseWithdrawn, detail := detail }
      (s.onPause fun c => c.move .running))
  | .held => performLatched (s.onPause fun c => c.move .running)

/-- A source of the pause has changed from `before`, R147: the pause state follows where that changed
what is wanted. -/
def afterSource (before : Bool) (detail : Nat) (s : State) : State :=
  match before, s.pause.wanted with
  | false, true => pauseWanted s
  | true, false => pauseUnwanted detail s
  | _, _ => s

/-- A capture has been made, R154: HELD returns to DRAINING. -/
def captureMade (s : State) : State :=
  if s.pause.state = .held then s.onPause fun c => c.move .draining else s

end Sys2Proof.Machine
end

