-- ==== Sys2Proof/Machine/Lights.lean ====
section
/-! DEFINITION. The lights of the put wall (R116), the pending marks (R117) and the lane link's transmitter
(R123, R124). -/

namespace Sys2Proof.Machine

/-- The number of a panel position in the cyclic order of R123: lane 1 position 0 is 0, lane 8 position 15
is 127. -/
def panelIndex (n : Lane) (position : Nat) : Nat := 16 * (laneNumber n - 1) + position

/-- The lane of a panel position's number. -/
def laneOfIndex (i : Nat) : Lane := (laneOf (i / 16 + 1)).getD .l8

/-- The position, 0..15, of a panel position's number. -/
def positionOfIndex (i : Nat) : Nat := i % 16

/-- The target of a chute entry, R112. -/
def ChuteKind.target : ChuteKind → Nat
  | .put position _ _ => position
  | .void => 0
  | .stray => 0

/-- The target of the head of a lane's chute list. -/
def State.headTarget (s : State) (n : Lane) : Option Nat :=
  (s.wall.chutes.get n).head?.map fun e => e.kind.target

/-- The light of a position, R116. -/
def light (s : State) (n : Lane) (position : Nat) : Light :=
  if s.headTarget n = some position then .put
  else if position = 0 then .off
  else
    match (s.book.boundAt n position).map Order.state with
    | some .complete => .close
    | some .cancelled => .clear
    | _ => .off

/-- The light of a panel position by its number. -/
def lightAt (s : State) (i : Nat) : Light := light s (laneOfIndex i) (positionOfIndex i)

/-- The numbers of the panel positions. -/
def panelIndexes : List Nat := List.range Config.panelPositions

/-- Set the marks of the positions listed; marks already set stay set, R117. -/
def PutWall.mark (w : PutWall) (changed : List Nat) : PutWall :=
  { w with marks := panelIndexes.filter fun i => w.marks.contains i || changed.contains i }

/-- The positions whose derived light differs between two states, R117. -/
def lightsChanged (before after : State) : List Nat :=
  panelIndexes.filter fun i => lightAt after i != lightAt before i

/-- The panel positions after the send pointer in the cyclic order, R123. -/
def cyclicFrom (pointer : Nat) : List Nat :=
  panelIndexes.map fun k => (pointer + 1 + k) % Config.panelPositions

/-- The position whose frame is sent next: the first after the pointer whose mark is set, R123. -/
def PutWall.nextMarked (w : PutWall) : Option Nat :=
  (cyclicFrom w.pointer).find? fun i => w.marks.contains i

/-- An idle transmitter with a mark set begins a send, R123 and R124: the mark is cleared, the pointer
names the position, and the frame carries the light as it stands. -/
def beginLight (s : State) : State :=
  match s.wall.tx, s.wall.nextMarked with
  | none, some i =>
    s.onWall fun w =>
      { w with
        marks := w.marks.filter fun k => k != i
        pointer := i
        tx := some { lane := laneOfIndex i, position := positionOfIndex i, value := lightAt s i } }
  | _, _ => s

/-- The marks of the positions listed are set, and an idle transmitter begins a send (R117, R123). -/
def markAndSend (changed : List Nat) (s : State) : State := beginLight (s.onWall fun w => w.mark changed)

/-- After an event that led from `before` to `s`, the positions whose light changed are marked (R117), and
an idle transmitter begins a send (R123). Where no light changed, nothing changes. -/
def relight (before s : State) : State :=
  match lightsChanged before s with
  | [] => s
  | changed => markAndSend changed s

/-- An event that can change lights, R117. -/
def withLights (f : State → State) (s : State) : State := relight s (f s)

/-- The bytes of a LIGHT frame (Section 9.8), with the check of R160. -/
def LightFrame.bytes (f : LightFrame) : List Byte :=
  let data : List Byte := toBytes 1 (laneNumber f.lane) ++ [0x01] ++ toBytes 1 f.position ++
    toBytes 1 f.value.code
  0xA6 :: (data ++ crcBytes data)

end Sys2Proof.Machine
end

