-- ==== Sys2Proof/Machine/Divert.lean ====
section
/-! DEFINITION. The Divert Scheduler (Chapter 5): schedules, committed counts, the fire, the dwell, misses,
exits, jams and ARMS_LIVE; and the passes of the recirculation table (R87, R88). -/

namespace Sys2Proof.Machine

/-! ### Entries -/

/-- The arm an entry is destined to; a RECIRCULATE entry has none. -/
def Dest.arm : Dest → Option Arm
  | .place lane _ _ _ _ => some (.lane lane)
  | .voidLane lane => some (.lane lane)
  | .reject _ => some .reject
  | .recirculate _ => none

/-- Whether the entry is SCHEDULED, R89. -/
def Entry.isScheduled (e : Entry) : Bool :=
  match e.state with
  | .scheduled _ => true
  | _ => false

/-- Whether the entry is FIRED, R89. -/
def Entry.isFired (e : Entry) : Bool :=
  match e.state with
  | .fired _ _ => true
  | _ => false

/-- Whether the destination is PLACE. -/
def Dest.isPlace : Dest → Bool
  | .place _ _ _ _ _ => true
  | _ => false

/-- The fire position of a SCHEDULED entry. -/
def Entry.firePosition (e : Entry) : Option Pos :=
  match e.state with
  | .scheduled f => some f
  | _ => none

/-- Whether the entry is SCHEDULED on an arm. -/
def Entry.scheduledOn (a : Arm) (e : Entry) : Bool := e.dest.arm == some a && e.isScheduled

/-- Whether the entry is FIRED and awaits an arm's chute eye, R94 and R95. -/
def Entry.awaits (a : Arm) (e : Entry) : Bool := e.dest.arm == some a && e.isFired

/-- Whether the entry holds a reservation, R15: PLACE, and SCHEDULED or FIRED. -/
def Entry.holdsReservation (e : Entry) : Bool := e.dest.isPlace && (e.isScheduled || e.isFired)

/-- The fire positions of an arm's SCHEDULED entries, in queue order. -/
def State.firePositions (s : State) (a : Arm) : List Pos :=
  (s.divert.queue.filter (Entry.scheduledOn a)).filterMap Entry.firePosition

/-- Put a position in its place in a list ordered by distance ahead from p. -/
def insertAhead (p f : Pos) : List Pos → List Pos
  | [] => [f]
  | g :: gs => if ahead p f ≤ ahead p g then f :: g :: gs else g :: insertAhead p f gs

/-- The schedule of an arm, R90: its fire positions ordered by distance ahead from P, nearest first. -/
def State.schedule (s : State) (a : Arm) : List Pos :=
  (s.firePositions a).foldr (insertAhead s.p) []

/-- The committed count of a lane, R77 and R99. -/
def State.committed (s : State) (n : Lane) : Nat :=
  ((s.wall.chutes.get n).filter fun e => e.kind != .stray).length +
    (s.divert.queue.filter fun e =>
      e.dest.arm == some (.lane n) && (e.isScheduled || e.isFired)).length

/-- Whether F keeps ARM_GAP from an arm's schedule and last fire, R78. -/
def State.spaced (s : State) (a : Arm) (f : Pos) : Bool :=
  (s.firePositions a).all (fun g => s.params.armGap ≤ nearer f g) &&
    ((s.divert.arms.get a).lastFire.map fun l => decide (s.params.armGap ≤ ahead l f)).getD true

/-- Whether a fire position is reachable, R76. -/
def State.reachable (s : State) (f : Pos) (dist : Nat) : Bool :=
  s.params.lead ≤ ahead s.p f && ahead s.p f ≤ dist

/-- Change an arm's record. -/
def setArm (a : Arm) (r : ArmRec) (s : State) : State :=
  s.onDivert fun d => { d with arms := d.arms.set a r }

/-- Change a chute eye's record. -/
def setChuteEye (a : Arm) (r : ChuteEye) (s : State) : State :=
  s.onDivert fun d => { d with eyes := d.eyes.set a r }

/-- Change the first belt-queue entry that satisfies `p`. -/
def changeEntry (p : Entry → Bool) (f : Entry → Entry) (s : State) : State :=
  s.onDivert fun d => { d with queue := changeFirst p f d.queue }

/-- The first belt-queue entry that satisfies `p` leaves; those behind it close up, R89. -/
def removeEntry (p : Entry → Bool) (s : State) : State :=
  s.onDivert fun d => { d with queue := d.queue.eraseP p }

/-- The release for a PLACE entry, R13, with the weight and layer it holds. -/
def releaseEntry (e : Entry) (s : State) : State :=
  match e.dest with
  | .place _ _ slot line _ =>
    release slot line ((e.weight.map (·.grams)).getD 0) (e.layer.getD 0) s
  | _ => s

/-- The SCHEDULED entries that `p` selects become OUTBOUND, and a release is sent for each PLACE entry
among them, in queue order (R104, R105, R109). -/
def giveUp (p : Entry → Bool) (reason : OutboundReason) (s : State) : State :=
  let gone := s.divert.queue.filter p
  gone.foldl (fun t e => releaseEntry e t) (s.onDivert fun d =>
    { d with queue := d.queue.map fun e => if p e then { e with state := .outbound reason } else e })

/-! ### The recirculation table -/

/-- Whether an outbound reason counts a pass, R87. -/
def OutboundReason.countsPass : OutboundReason → Bool
  | .unplaceable | .missed | .rejectBlocked => true
  | _ => false

/-- One pass of a carrier is counted, R87. -/
def countPass (carrier : Nat) (t : List Recirc) : List Recirc :=
  if t.any fun r => r.carrier == carrier then
    changeFirst (fun r => r.carrier == carrier)
      (fun r => { r with passes := min (r.passes + 1) Config.maxRecordPasses }) t
  else if t.length < Config.recircRecords then t ++ [{ carrier := carrier, passes := 1 }]
  else t.drop 1 ++ [{ carrier := carrier, passes := 1 }]

/-- An exit reaches the recirculation table, R87. -/
def passOf (carrier : Option Nat) (reason : OutboundReason) (s : State) : State :=
  match carrier with
  | none => s
  | some c => if c = 0 ∨ reason.countsPass = false then s else s.onRecirc (countPass c)

/-- A confirm reaches the recirculation table, R88. -/
def forgetCarrier (carrier : Option Nat) (s : State) : State :=
  match carrier with
  | none => s
  | some c => if c = 0 then s else s.onRecirc fun t => t.eraseP fun r => r.carrier == c

/-! ### Fire, dwell, lapse -/

/-- Whether an entry's fire is due on an arm: its fire position is P, R92. -/
def Entry.fireDue (a : Arm) (p : Pos) (e : Entry) : Bool :=
  e.scheduledOn a && e.firePosition == some p

/-- The fire of an arm, R92: nothing changes unless P is a fire position of its schedule. -/
def fireArm (a : Arm) (s : State) : State :=
  if s.divert.queue.any (Entry.fireDue a s.p) then
    let f := s.p
    let s := changeEntry (Entry.fireDue a f)
      (fun e => { e with state := .fired f (beyond f s.params.confirmWindow) }) s
    count .fires (setArm a
      { lastFire := some f, output := some (beyond f s.params.armDwell), lapseDue := false } s)
  else s

/-- The end of an arm's dwell, R93: nothing changes unless P is the dwell end its output holds. -/
def endDwell (a : Arm) (s : State) : State :=
  let r := s.divert.arms.get a
  if r.output = some s.p then setArm a { r with output := none } s else s

/-- The lapse of an arm's last fire position, R93, when the latest count made it due. -/
def lapseLastFire (a : Arm) (s : State) : State :=
  let r := s.divert.arms.get a
  if r.lapseDue then setArm a { r with lastFire := none, lapseDue := false } s else s

/-! ### Misses and exits -/

/-- Whether a FIRED entry with this tag has its confirm deadline at P, R96. -/
def Entry.missDue (tag : Tag) (p : Pos) (e : Entry) : Bool :=
  match e.state with
  | .fired _ deadline => e.tag == tag && deadline == p
  | _ => false

/-- The detail of MISSED_DIVERT, R96. -/
def Dest.missDetail : Dest → Nat
  | .place _ _ _ _ _ => 0
  | .voidLane _ => 1
  | _ => 2

/-- The MISSED_DIVERT report of an entry, R96. -/
def missReport (e : Entry) (s : State) : Report :=
  { kind := .missedDivert
    detail := e.dest.missDetail
    lane := (e.dest.arm.map armNumber).getD 0
    position := match e.dest with
      | .place _ position _ _ _ => some position
      | _ => none
    order := match e.dest with
      | .place _ _ slot _ _ => s.book.numberAt slot
      | _ => 0
    stock := e.stock.getD 0
    carrier := e.carrier.getD 0 }

/-- The miss of the FIRED entry with a tag, R96: nothing changes unless its deadline is P. -/
def missEntry (tag : Tag) (s : State) : State :=
  match s.divert.queue.find? (Entry.missDue tag s.p) with
  | none => s
  | some e =>
    let s := changeEntry (Entry.missDue tag s.p) (fun e => { e with state := .outbound .missed }) s
    releaseEntry e (count .misses (report (missReport e s) s))

/-- Whether an OUTBOUND entry with this tag has its exit position at P, R98. -/
def Entry.exitDue (tag : Tag) (p : Pos) (e : Entry) : Bool :=
  match e.state with
  | .outbound _ => e.tag == tag && e.exitAt == p
  | _ => false

/-- The outbound reason of an entry. -/
def Entry.outboundReason (e : Entry) : Option OutboundReason :=
  match e.state with
  | .outbound r => some r
  | _ => none

/-- What the exit of an OUTBOUND entry does once it has left the queue, R98 and R87. -/
def exited (e : Entry) (s : State) : State :=
  let s := count .recirculations s
  match e.outboundReason with
  | some r => passOf e.carrier r s
  | none => s

/-- The exit of the OUTBOUND entry with a tag, R98: nothing changes unless its exit position is P. -/
def exitEntry (tag : Tag) (s : State) : State :=
  match s.divert.queue.find? (Entry.exitDue tag s.p) with
  | none => s
  | some e => drainTest (exited e (removeEntry (Entry.exitDue tag s.p) s))

/-! ### Jams -/

/-- The state a lane goes back to when a jam clears, R103. -/
def LaneState.returnState : LaneState → ReturnState
  | .enabled => .enabled
  | .disabled => .disabled
  | .jammed r => r

/-- The lane state a return state stands for. -/
def ReturnState.laneState : ReturnState → LaneState
  | .enabled => .enabled
  | .disabled => .disabled

/-- Change a lane's state. -/
def setLane (n : Lane) (st : LaneState) (s : State) : State :=
  s.onDivert fun d => { d with laneStates := d.laneStates.set n st }

/-- Whether an arm or its lane is JAMMED, R100. -/
def State.jammed (s : State) : Arm → Bool
  | .lane n => match s.divert.laneStates.get n with
    | .jammed _ => true
    | _ => false
  | .reject => s.divert.rejectJammed

/-- A lane becomes JAMMED, R103 and R104. -/
def jamLane (n : Lane) (s : State) : State :=
  let r := (s.divert.laneStates.get n).returnState
  let s := report { kind := .laneJam, detail := r.code, lane := laneNumber n }
    (setLane n (.jammed r) s)
  giveUp (Entry.scheduledOn (.lane n)) .jam s

/-- The reject arm becomes JAMMED, R103 and R105. -/
def jamReject (s : State) : State :=
  let s := report { kind := .laneJam, detail := 0, lane := 9 }
    (s.onDivert fun d => { d with rejectJammed := true })
  giveUp (Entry.scheduledOn .reject) .rejectBlocked s

/-- The jam of an arm, R103: nothing changes unless the latest count made it due, the eye is still blocked
and the arm is not JAMMED. -/
def jamArm (a : Arm) (s : State) : State :=
  let r := s.divert.eyes.get a
  if r.jamDue ∧ r.blockStart.isSome ∧ s.jammed a = false then
    let s := setChuteEye a { r with jamDue := false } s
    match a with
    | .lane n => jamLane n s
    | .reject => jamReject s
  else s

/-! ### What a count makes due -/

/-- Mark an arm whose last fire position lies at least ARM_GAP behind P, R93. -/
def ArmRec.markLapse (p : Pos) (gap : Nat) (r : ArmRec) : ArmRec :=
  { r with lapseDue := (r.lastFire.map fun l => decide (gap ≤ ahead l p)).getD false }

/-- Mark a chute eye blocked for at least JAM_LEN counts, R103. -/
def ChuteEye.markJam (p : Pos) (len : Nat) (r : ChuteEye) : ChuteEye :=
  { r with jamDue := (r.blockStart.map fun b => decide (len ≤ ahead b p)).getD false }

/-- The marks of the latest count. -/
def markDue (s : State) : State :=
  s.onDivert fun d =>
    { d with
      arms := d.arms.map (ArmRec.markLapse s.p s.params.armGap)
      eyes := d.eyes.map (ChuteEye.markJam s.p s.params.jamLen) }

/-! ### ARMS_LIVE -/

/-- The least EXIT_DIST that makes the geometry consistent, R107. -/
def leastExitDist (p : Params) : Nat :=
  (p.laneDist.toList.foldl max p.rejectDist) + p.confirmWindow + 1

/-- Whether the geometry is consistent, R107. -/
def geometryConsistent (p : Params) : Bool := leastExitDist p ≤ p.exitDist

/-- ARMS_LIVE is set, R107: nothing else changes. -/
def setArmsLive (s : State) : State := s.onDivert fun d => { d with armsLive := true }

/-- ARMS_LIVE is cleared, R109: outputs inactive, SCHEDULED entries OUTBOUND (ARMS_OFF), releases sent. -/
def clearArmsLive (s : State) : State :=
  giveUp Entry.isScheduled .armsOff (s.onDivert fun d =>
    { d with armsLive := false, arms := d.arms.map fun r => { r with output := none } })

end Sys2Proof.Machine
end

