-- ==== Sys2Proof/Machine/Permission.lean ====
section
/-! DEFINITION. The lookups a decision makes (Chapter 2): the product record (R32), the permission test
(R35, R36), and the refusal record (R39). -/

namespace Sys2Proof.Machine

/-- The record of a stock code, R32. -/
def lookup (code : Nat) (t : List Product) : Option Product := t.find? fun r => r.code == code

/-- The mask of an entry for a kind, R35. -/
def RangeEntry.mask (r : RangeEntry) : Kind → Mask
  | .primary => r.primary
  | .substitute => r.substitute

/-- Whether a range speaks for a stock code and class, R35 step 1. -/
def RangeEntry.relevant (r : RangeEntry) (code cls : Nat) : Bool :=
  r.valid && r.start ≤ code && code ≤ r.stop && r.check.getLsbD cls

/-- The relevant ranges with their indexes, lowest first. -/
def relevantRanges (ranges : List RangeEntry) (code cls : Nat) : List (RangeEntry × Nat) :=
  ranges.zipIdx.filter fun x => x.1.relevant code cls

/-- The permission test, R35 and R36: none when allowed, else the cause of the refusal. -/
def refusalCause (s : State) (code cls : Nat) (k : Kind) : Option Cause :=
  match relevantRanges s.ranges.ranges code cls with
  | [] => match s.params.defaultAllow with
    | .allow => none
    | .refuse => some .default
  | relevant => (relevant.find? fun x => !(x.1.mask k).getLsbD cls).map fun x => .range x.2

/-- The active entry of a class, R34. -/
def classEntry (s : State) (cls : Nat) : ClassEntry := s.ranges.classes.getD cls ClassEntry.reset

/-- A candidate, R73: a line of an order bound to a hamper position, with its kind. -/
structure Candidate where
  order : Order
  lane : Lane
  position : Nat
  line : Nat
  kind : Kind
  deriving DecidableEq, Repr

/-- A class refusal reaches the Class Range Unit, R39. -/
def classRefusal (c : Candidate) (cause : Cause) (sc : Scan) (s : State) : State :=
  let s := s.onRanges fun u =>
    match u.record with
    | none =>
      { u with
        count := bump16 u.count
        record := some
          { stock := sc.stock, cls := c.order.cls, kind := c.kind, cause := cause
            wave := s.wave.counter, order := c.order.number } }
    | some _ => { u with count := bump16 u.count, more := true }
  report
    { kind := .classRefusal, detail := cause.code, lane := laneNumber c.lane
      position := some c.position, order := c.order.number, stock := sc.stock
      carrier := sc.carrier } s

end Sys2Proof.Machine
end

