-- ==== Sys2Proof/Machine/Placement.lean ====
section
/-! DEFINITION. The placement decision (Chapter 4): the steps that settle an item early (R65 to R72), the
candidates and their tests (R73 to R78), the score (R79 to R81), and the outcomes (R82 to R84). -/

namespace Sys2Proof.Machine

/-- The absent weight or best-before day of a scan record, Section 9.8. -/
def absent16 : Nat := 0xFFFF

/-- The scan record of a good read, R62. -/
def Item.goodRead (it : Item) : Option Scan :=
  match it.scan with
  | some sc => if sc.status = 0 then some sc else none
  | none => none

/-- The measured weight of a scan record, R63. -/
def Scan.measured (sc : Scan) : Option Weight :=
  if sc.weight = absent16 then none else some { grams := sc.weight, estimated := false }

/-- A capture's length, absent while it is open, R44 and R59. -/
def Capture.length (c : Capture) : Option Nat := c.trail.map fun t => ahead c.lead t

/-- The entry of an item before any step has passed, R63: stock code and carrier of a good read, and the
measured weight. -/
def Item.entry (it : Item) : Entry :=
  { tag := it.capture.tag
    lead := it.capture.lead
    exitAt := 0
    stock := it.goodRead.map (·.stock)
    carrier := it.goodRead.map (·.carrier)
    group := none
    layer := none
    weight := it.scan.bind Scan.measured
    dest := .recirculate .unplaceable
    state := .outbound .unplaceable }

/-- An entry is appended to the belt queue with its exit position, R89. A fire position equal to P is fired
at once (R91), and an OUTBOUND entry whose age is EXIT_DIST or more exits at once (R98). -/
def appendEntry (e : Entry) (s : State) : State :=
  let e := { e with exitAt := beyond e.lead s.params.exitDist }
  let t := s.onDivert fun d => { d with queue := d.queue ++ [e] }
  match e.state, e.dest.arm with
  | .scheduled f, some a => if f = s.p then fireArm a t else t
  | .outbound _, _ => if s.params.exitDist ≤ ahead e.lead s.p then exited e s else t
  | _, _ => t

/-! ### Outcomes -/

/-- RECIRCULATE, R66, R67, R83. -/
def recirculate (e : Entry) (r : RecirculateReason) (s : State) : State :=
  appendEntry
    { e with
      dest := .recirculate r
      state := .outbound (match r with
        | .armsOff => .armsOff
        | .noRead => .noRead
        | .unplaceable => .unplaceable) } s

/-- Whether a reject fire can be scheduled, R84. -/
def State.rejectFits (s : State) (lead : Pos) : Bool :=
  let f := beyond lead s.params.rejectDist
  !s.divert.rejectJammed && s.reachable f s.params.rejectDist && s.spaced .reject f

/-- The lane a reject's event carries, R68 and R84: 9 when scheduled, 0 when blocked. -/
def State.rejectLane (s : State) (lead : Pos) : Nat := if s.rejectFits lead then 9 else 0

/-- REJECT, R84. -/
def rejectItem (e : Entry) (r : RejectReason) (s : State) : State :=
  appendEntry
    { e with
      dest := .reject r
      state :=
        if s.rejectFits e.lead then .scheduled (beyond e.lead s.params.rejectDist)
        else .outbound .rejectBlocked } (count .rejectsDecided s)

/-- A REJECT whose reason has an event of its own, reported with the item's stock code and carrier. -/
def rejectReported (e : Entry) (r : RejectReason) (kind : EventKind) (detail : Nat) (sc : Scan)
    (s : State) : State :=
  rejectItem e r (report
    { kind := kind, detail := detail, lane := s.rejectLane e.lead, stock := sc.stock
      carrier := sc.carrier } s)

/-! ### Candidates and tests -/

/-- The kind by which a line takes a group, R73. -/
def RecipeLine.kindFor (l : RecipeLine) (group : Nat) : Option Kind :=
  if l.remaining = 0 then none
  else if l.primary = group then some .primary
  else if l.substitute = some group then some .substitute
  else none

/-- The candidates of one order, R73. -/
def orderCandidates (s : State) (group : Nat) (o : Order) : List Candidate :=
  match o.state, o.position with
  | .opened, some (lane, position) =>
    if s.laneEnabled lane then
      o.lines.zipIdx.filterMap fun x =>
        (x.1.kindFor group).map fun k =>
          { order := o, lane := lane, position := position, line := x.2, kind := k }
    else []
  | _, _ => []

/-- The candidates, R73, in ascending slot then line index. -/
def candidates (s : State) (group : Nat) : List Candidate :=
  s.book.orders.flatMap (orderCandidates s group)

/-- The fire position of a candidate's lane, R76. -/
def Candidate.fire (c : Candidate) (s : State) (lead : Pos) : Pos :=
  beyond lead (s.params.laneDist.get c.lane)

/-- Test (a), R35: the cause when the class may not take the item. -/
def Candidate.classCause (c : Candidate) (s : State) (code : Nat) : Option Cause :=
  refusalCause s code c.order.cls c.kind

/-- Test (b), R74. -/
def Candidate.weightFits (c : Candidate) (w : Nat) : Bool :=
  c.order.reservedWeight + c.order.placedWeight + w ≤ c.order.budget

/-- Test (c), R75. -/
def Candidate.layerFits (c : Candidate) (s : State) (layer : Nat) : Bool :=
  !(classEntry s c.order.cls).layerRule || c.order.layerLevel ≤ layer

/-- Test (d), R75. -/
def Candidate.lasts (c : Candidate) (s : State) (dated : Bool) (bestBefore : Nat) : Bool :=
  !dated || (bestBefore != absent16 &&
    c.order.dispatchDay + (classEntry s c.order.cls).shelfDays ≤ bestBefore)

/-- Test (e), R76. -/
def Candidate.reaches (c : Candidate) (s : State) (lead : Pos) : Bool :=
  s.reachable (c.fire s lead) (s.params.laneDist.get c.lane)

/-- Test (f), R77. -/
def Candidate.chuteFits (c : Candidate) (s : State) : Bool :=
  s.committed c.lane < s.params.chuteCap.get c.lane

/-- Test (g), R78. -/
def Candidate.spaced (c : Candidate) (s : State) (lead : Pos) : Bool :=
  s.spaced (.lane c.lane) (c.fire s lead)

/-- What a decision carries past step 6: the item's entry with group, layer and weight, its product and
its scan record. -/
structure Subject where
  entry : Entry
  product : Product
  scan : Scan
  grams : Nat
  deriving DecidableEq, Repr

/-- Tests (b) to (g). -/
def Candidate.passesRest (c : Candidate) (s : State) (x : Subject) : Bool :=
  c.weightFits x.grams && c.layerFits s x.product.layer &&
    c.lasts s x.product.dated x.scan.bestBefore && c.reaches s x.entry.lead && c.chuteFits s &&
    c.spaced s x.entry.lead

/-- Whether a candidate qualifies: all seven tests, R74. -/
def Candidate.qualifies (c : Candidate) (s : State) (x : Subject) : Bool :=
  (c.classCause s x.scan.stock).isNone && c.passesRest s x

/-! ### Score -/

/-- Urgency, R79. -/
def urgency (dueWave wave : Nat) : Nat := if dueWave ≤ wave then 1023 else 1023 - 64 * (dueWave - wave)

/-- Completion, R80. -/
def completion (o : Order) : Nat := 512 * (o.committed + 1) / o.total

/-- Distance penalty, R80. -/
def distancePenalty (dist div : Nat) : Nat := min (dist / div) 1023

/-- Match, R80. -/
def Kind.matchTerm : Kind → Nat
  | .primary => 256
  | .substitute => 0

/-- Score, R80: raised to 0 if below 0. -/
def Candidate.score (c : Candidate) (s : State) : Nat :=
  urgency c.order.dueWave s.wave.counter + completion c.order + c.kind.matchTerm -
    distancePenalty (s.params.laneDist.get c.lane) s.params.distDiv

/-- Whether a candidate stands before another by slot and line index, R81 and R83. -/
def Candidate.before (c d : Candidate) : Bool :=
  c.order.slot < d.order.slot || (c.order.slot == d.order.slot && c.line < d.line)

/-- Whether a candidate wins over another, R81. -/
def Candidate.beats (s : State) (c d : Candidate) : Bool :=
  d.score s < c.score s || (c.score s == d.score s && c.before d)

/-- The element that no other precedes by `better`, the first such in the list. -/
def best {α : Type} (better : α → α → Bool) : List α → Option α
  | [] => none
  | x :: xs => some (xs.foldl (fun b y => if better y b then y else b) x)

/-- The winner among the candidates, R81. -/
def winner (s : State) (x : Subject) (cs : List Candidate) : Option Candidate :=
  best (Candidate.beats s) (cs.filter fun c => c.qualifies s x)

/-! ### The decision -/

/-- PLACE, R82. -/
def place (c : Candidate) (x : Subject) (s : State) : State :=
  let s := reserve c.order.slot c.line x.grams x.product.layer s
  count .placements (appendEntry
    { x.entry with
      dest := .place c.lane c.position c.order.slot c.line c.kind
      state := .scheduled (c.fire s x.entry.lead) } s)

/-- Whether the candidates make a class refusal, R83: at least one, and each failed (a) alone. -/
def isClassRefusal (s : State) (x : Subject) (cs : List Candidate) : Bool :=
  !cs.isEmpty && cs.all fun c => (c.classCause s x.scan.stock).isSome && c.passesRest s x

/-- UNPLACEABLE, R83, with the class refusal it may be. -/
def unplaceable (x : Subject) (cs : List Candidate) (s : State) : State :=
  let t :=
    if isClassRefusal s x cs then
      match best Candidate.before cs with
      | none => s
      | some c => match c.classCause s x.scan.stock with
        | none => s
        | some cause => classRefusal c cause x.scan s
    else s
  recirculate x.entry .unplaceable t

/-- Candidate formation, tests, score and outcome, R73 to R83. -/
def placeOrRecirculate (x : Subject) (s : State) : State :=
  let cs := candidates s x.product.group
  match winner s x cs with
  | some c => place c x s
  | none => unplaceable x cs s

/-- The passes of a carrier's record when they reach MAX_PASSES, R72. -/
def State.passLimit (s : State) (carrier : Nat) : Option Nat :=
  if carrier = 0 then none
  else match s.recirc.find? fun r => r.carrier == carrier with
    | some r => if s.params.maxPasses ≤ r.passes then some r.passes else none
    | none => none

/-- Step 6, R72. -/
def passLimitStep (x : Subject) (s : State) : State :=
  match s.passLimit x.scan.carrier with
  | some passes => rejectReported x.entry .passLimit .passLimit passes x.scan s
  | none => placeOrRecirculate x s

/-- The tolerance limit of a product, R70. -/
def Product.limit (r : Product) : Nat := r.nominal * r.tolerance / 100

/-- The difference of two weights, taken without sign. -/
def weightDiff (a b : Nat) : Nat := (a - b) + (b - a)

/-- Step 5, R70 and R71. -/
def weightStep (e : Entry) (r : Product) (sc : Scan) (s : State) : State :=
  if sc.weight = absent16 then
    passLimitStep
      { entry := { e with weight := some { grams := r.nominal, estimated := true } }
        product := r, scan := sc, grams := r.nominal } (count .weightEstimated s)
  else if r.limit < weightDiff sc.weight r.nominal then
    rejectReported e .weightMismatch .weightMismatch (if r.nominal < sc.weight then 0 else 1) sc
      (count .weightMismatches s)
  else passLimitStep { entry := e, product := r, scan := sc, grams := sc.weight } s

/-- Step 4, R69. -/
def catalogueStep (e : Entry) (sc : Scan) (s : State) : State :=
  match lookup sc.stock s.catalogue with
  | none => rejectReported e .unknownItem .unknownItem 0 sc (count .unknownItems s)
  | some r => weightStep { e with group := some r.group, layer := some r.layer } r sc s

/-- The detail of a double, R68: 0 for an open capture, 1 for a length over MAX_LEN. -/
def doubleDetail (c : Capture) (maxLen : Nat) : Option Nat :=
  match c.length with
  | none => some 0
  | some len => if maxLen < len then some 1 else none

/-- Step 3, R68. -/
def doubleStep (it : Item) (sc : Scan) (s : State) : State :=
  match doubleDetail it.capture s.params.maxLen with
  | some detail => rejectReported it.entry .double .doubleItem detail sc (count .doubles s)
  | none => catalogueStep it.entry sc s

/-- Step 2, R67. -/
def noReadStep (it : Item) (s : State) : State :=
  match s.params.noReadAction with
  | .recirculate => recirculate it.entry .noRead s
  | .reject => rejectItem it.entry .noRead s

/-- The report of a no-read, R65. -/
def reportNoRead (it : Item) (s : State) : State :=
  match it.goodRead with
  | some _ => s
  | none =>
    count .noReads (report
      (match it.scan with
        | none => { kind := .noRead, detail := 0 }
        | some sc => { kind := .noRead, detail := 1, carrier := sc.carrier }) s)

/-- A decision that finds the belt queue full, R64. -/
def beltQueueFull (it : Item) (s : State) : State :=
  count .beltQueueFulls (report
    { kind := .beltQueueFull, detail := Config.beltQueue
      stock := (it.goodRead.map (·.stock)).getD 0
      carrier := (it.goodRead.map (·.carrier)).getD 0 } s)

/-- The placement decision, R62 to R84. -/
def placementDecision (it : Item) (s : State) : State :=
  let s := reportNoRead it s
  if Config.beltQueue ≤ s.divert.queue.length then beltQueueFull it s
  else if s.divert.armsLive = false then recirculate it.entry .armsOff s
  else match it.goodRead with
    | none => noReadStep it s
    | some sc => doubleStep it sc s

/-- The Capture Unit hands an item on; after its decision the drain condition is tested, R152. -/
def handItem (it : Item) (s : State) : State := drainTest (placementDecision it s)

end Sys2Proof.Machine
end

