-- ==== Sys2Proof/Machine/Capture.lean ====
section
/-! DEFINITION. The Capture Unit (Chapter 3): captures made, trailing edges, expiry (R55), and scan records
(R57, R58). -/

namespace Sys2Proof.Machine

/-- The age of a capture, R44. -/
def State.age (s : State) (c : Capture) : Nat := ahead c.lead s.p

/-- A capture joins at the tail with the next tag, and the Pause Controller is told, R50, R51, R54. -/
def makeCapture (lead : Pos) (trail : Option Pos) (s : State) : State :=
  let s := s.onCapture fun u =>
    { list := u.list ++ [{ tag := u.nextTag, lead := lead, trail := trail }]
      nextTag := u.nextTag + 1 }
  captureMade (count .captures s)

/-- A leading edge, R51 and R52. -/
def leadingEdge (s : State) : State :=
  if s.capture.list.length < Config.captureList then makeCapture s.p none s
  else count .overruns (report { kind := .captureOverrun, detail := Config.captureList } s)

/-- The newest capture takes its trailing position if it has none, R53. -/
def setTrail (p : Pos) : List Capture → List Capture
  | [] => []
  | [c] => [{ c with trail := some (c.trail.getD p) }]
  | c :: cs => c :: setTrail p cs

/-- A trailing edge, R53. -/
def trailingEdge (s : State) : State :=
  s.onCapture fun u => { u with list := setTrail s.p u.list }

/-- The expiry of the head, R55: nothing changes unless its age exceeds PAIR_MAX. -/
def expireHead (s : State) : State :=
  match s.capture.list with
  | [] => s
  | c :: rest =>
    if s.params.pairMax < s.age c then
      handItem { capture := c, scan := none } (s.onCapture fun u => { u with list := rest })
    else s

/-- Expiries one after another, oldest first, R55 and R57 step 1; `n` bounds their number. -/
def sweep : (n : Nat) → State → State
  | 0, s => s
  | n + 1, s => sweep n (expireHead s)

/-- The sweep of the whole capture list. -/
def sweepAll (s : State) : State := sweep s.capture.list.length s

/-- An orphan scan, R58. -/
def orphanScan (detail : Nat) (sc : Scan) (s : State) : State :=
  count .orphanScans (report
    { kind := .orphanScan, detail := detail, stock := sc.stock, carrier := sc.carrier } s)

/-- A scan record that has been swept for, R57 steps 2 to 4. -/
def pairScan (sc : Scan) (s : State) : State :=
  match s.capture.list with
  | [] => orphanScan 0 sc s
  | c :: rest =>
    if s.age c < s.params.pairMin then orphanScan 1 sc s
    else
      handItem { capture := c, scan := some sc }
        (count .scansPaired (s.onCapture fun u => { u with list := rest }))

/-- A scan record arrives, R57. -/
def scanArrival (sc : Scan) (s : State) : State := pairScan sc (sweepAll s)

end Sys2Proof.Machine
end

