-- ==== Sys2Proof/Machine/Wall.lean ====
section
/-! DEFINITION. The Put Wall Controller's chute lists and keys (Chapter 6), and the position release of the
Order Book (R21). -/

namespace Sys2Proof.Machine

/-- Change a lane's chute list. -/
def setChute (n : Lane) (l : List ChuteEntry) (s : State) : State :=
  s.onWall fun w => { w with chutes := w.chutes.set n l }

/-- The chute entry of a confirmed entry, R94 and R112; it targets its position for PLACE and the return
position for VOID-LANE. The copies of R32 pass into it, the group among them, which R94 and R112 do not
list (DEDUCED, notes/assumptions/30.md). -/
def Entry.chuteEntry (e : Entry) : ChuteEntry :=
  { kind := match e.dest with
      | .place _ position slot line _ => .put position slot line
      | _ => .void
    stock := e.stock, carrier := e.carrier, group := e.group, weight := e.weight
    layer := e.layer }

/-- The list after an arrival, R113: a full list loses its oldest STRAY. -/
def arrive (e : ChuteEntry) (l : List ChuteEntry) : List ChuteEntry :=
  if l.length < Config.chuteList then l ++ [e]
  else (l.eraseP fun x => x.kind == .stray) ++ [e]

/-- The list after a stray, R114: a full list does not record it. -/
def arriveStray (l : List ChuteEntry) : List ChuteEntry :=
  if l.length < Config.chuteList then
    l ++ [{ kind := .stray, stock := none, carrier := none, group := none, weight := none
            layer := none }]
  else l

/-- A confirmed item joins a lane's chute list, R113. -/
def chuteArrival (n : Lane) (e : ChuteEntry) (s : State) : State :=
  setChute n (arrive e (s.wall.chutes.get n)) s

/-- A stray joins a lane's chute list, R114. -/
def strayArrival (n : Lane) (s : State) : State :=
  setChute n (arriveStray (s.wall.chutes.get n)) s

/-- The report of ORDER_RELEASED, R21 step 1. -/
def releaseReport (n : Lane) (position : Nat) (o : Order) : Report :=
  { kind := .orderReleased
    detail := if o.state = .cancelled then 2 else if o.short then 1 else 0
    lane := laneNumber n, position := some position, order := o.number }

/-- A position release, R21: report, empty the slot, tell the Wave Unit, run the binder. -/
def positionRelease (n : Lane) (position : Nat) (s : State) : State :=
  match s.book.boundAt n position with
  | none => s
  | some o =>
    let s := report (releaseReport n position o) s
    runBinder (countRelease (s.onBook fun b => b.empty o))

/-- The head of a lane's chute is taken by a key, R118 and R119. -/
def takeHead (n : Lane) (e : ChuteEntry) (rest : List ChuteEntry) (s : State) : State :=
  let s := setChute n rest s
  match e.kind with
  | .put _ slot line =>
    count .puts (confirm slot line ((e.weight.map (·.grams)).getD 0) (e.layer.getD 0) s)
  | _ => s

/-- A wrong key, R121. -/
def wrongKey (n : Lane) (position : Nat) (s : State) : State :=
  let head := (s.wall.chutes.get n).head?
  count .wrongKeys (report
    { kind := .wrongKey
      detail := (s.headTarget n).getD 0xFF
      lane := laneNumber n
      position := some position
      order := if position = 0 then 0 else ((s.book.boundAt n position).map (·.number)).getD 0
      stock := (head.bind (·.stock)).getD 0
      carrier := (head.bind (·.carrier)).getD 0 } s)

/-- The second and third key tests, Section 6.3: release by R120, or a wrong key. -/
def releaseOrWrong (n : Lane) (position : Nat) (s : State) : State :=
  match light s n position with
  | .close | .clear => positionRelease n position s
  | _ => wrongKey n position s

/-- A key press, Section 6.3. -/
def keyPress (n : Lane) (position : Nat) (s : State) : State :=
  match s.wall.chutes.get n with
  | e :: rest =>
    if e.kind.target = position then takeHead n e rest s else releaseOrWrong n position s
  | [] => releaseOrWrong n position s

/-- A panel refresh request, R127: all sixteen marks of the lane are set. -/
def panelRefresh (n : Lane) (s : State) : State :=
  markAndSend ((List.range 16).map (panelIndex n)) s

/-- Lane-link bytes 1 to 4 with a good check, R126 and R127. -/
def laneFrame (lane kind position value : Byte) (s : State) : State :=
  match laneOf lane.toNat with
  | none => linkErrorOn 0 s
  | some n =>
    if kind = 0x02 ∧ (position.toNat ≤ 15 ∨ position = 0xFF) ∧ value = 0 then
      if position = 0xFF then panelRefresh n s else withLights (keyPress n position.toNat) s
    else linkErrorOn (laneNumber n) s
where
  /-- The report of detail 0x81, R126. -/
  linkErrorOn (lane : Nat) (s : State) : State :=
    count .linkErrors (report { kind := .linkError, detail := 0x81, lane := lane } s)

/-- Six bytes collected after a lane-link start byte, R125: the check is compared. -/
def judgeLaneFrame (got : List Byte) (s : State) : State :=
  if crcBytes (got.take 4) = got.drop 4 then
    laneFrame (got.getD 0 0) (got.getD 1 0) (got.getD 2 0) (got.getD 3 0) s
  else linkError 0x80 s

/-- A byte of the lane link, R125. -/
def laneByte (s : State) (b : Byte) : State :=
  match s.wall.rx with
  | .hunting =>
    if b = 0xA6 then s.onWall fun w => { w with rx := .collecting [] } else s
  | .collecting got =>
    if got.length < 5 then s.onWall fun w => { w with rx := .collecting (got ++ [b]) }
    else judgeLaneFrame (got ++ [b]) (s.onWall fun w => { w with rx := .hunting })

/-- The bytes of the lane link in the order received. -/
def laneBytes (bytes : List Byte) (s : State) : State := bytes.foldl laneByte s

/-- The last byte of the LIGHT frame in progress is out, R124: the transmitter is idle, and the next send
may begin (R123). -/
def lightSent (s : State) : State :=
  match s.wall.tx with
  | none => s
  | some _ => beginLight (s.onWall fun w => { w with tx := none })

end Sys2Proof.Machine
end

