-- ==== Sys2Proof/Machine/Eyes.lean ====
section
/-! DEFINITION. The Belt Position Unit (Chapter 3) and what its edges do: eye polarity and filters (R45 to
R48), edges at the capture eye (R51 to R53) and at the chute eyes (R94, R95, R106), the encoder pulse and
the count (R42). -/

namespace Sys2Proof.Machine

/-! ### Edges at the chute eyes -/

/-- A FIRED entry is confirmed at an arm's chute eye, R94 and R95. -/
def confirmEntry (a : Arm) (e : Entry) (s : State) : State :=
  let s := removeEntry (Entry.awaits a) s
  let s := match a with
    | .lane n => chuteArrival n e.chuteEntry s
    | .reject => s
  drainTest (forgetCarrier e.carrier s)

/-- A stray at an arm's chute eye, R94, R95 and R114. -/
def strayAt (a : Arm) (s : State) : State :=
  match a with
  | .lane n =>
    strayArrival n (count .strays (report
      { kind := .strayItem, detail := (s.wall.chutes.get n).length, lane := laneNumber n } s))
  | .reject => count .strays (report { kind := .strayItem, detail := 0, lane := 9 } s)

/-- A blocking edge of a chute eye, R94 and R95: the stamp becomes the block start, and the oldest FIRED
entry that awaits the eye is confirmed, or the item is a stray. -/
def chuteBlocked (a : Arm) (s : State) : State :=
  let s := setChuteEye a { blockStart := some s.p, jamDue := false } s
  match s.divert.queue.find? (Entry.awaits a) with
  | some e => confirmEntry a e s
  | none => strayAt a s

/-- A jam clears, R106. -/
def clearJam (a : Arm) (s : State) : State :=
  match a with
  | .lane n =>
    match s.divert.laneStates.get n with
    | .jammed r =>
      let s := report { kind := .laneJamCleared, detail := r.code, lane := laneNumber n }
        (setLane n r.laneState s)
      if r = .enabled then runBinder s else s
    | _ => s
  | .reject =>
    if s.divert.rejectJammed then
      report { kind := .laneJamCleared, detail := 0, lane := 9 }
        (s.onDivert fun d => { d with rejectJammed := false })
    else s

/-- A clearing edge of a chute eye, R106. A jam that the latest count made due came at that count (R103), so
it is taken before the edge that clears it. -/
def chuteCleared (a : Arm) (s : State) : State :=
  clearJam a (setChuteEye a { blockStart := none, jamDue := false } (withLights (jamArm a) s))

/-- An edge, R47: a blocking edge when the eye became blocked, else a clearing edge. -/
def takeEdge (e : Eye) (blocking : Bool) (s : State) : State :=
  match e with
  | .cap => if blocking then leadingEdge s else trailingEdge s
  | .chute a => if blocking then withLights (chuteBlocked a) s else chuteCleared a s

/-! ### Levels and filters -/

/-- The polarity that governs an eye, R45. -/
def Params.polarity (p : Params) : Eye → Polarity
  | .cap => p.capturePolarity
  | .chute _ => p.lanePolarity

/-- An eye's raw level, R45: true is blocked. -/
def State.rawLevel (s : State) (e : Eye) : Bool :=
  match s.params.polarity e with
  | .blockedHigh => s.pins.eyes.get e
  | .blockedLow => !s.pins.eyes.get e

/-- Change an eye's filter. -/
def setFilter (e : Eye) (f : EyeFilter) (s : State) : State :=
  s.onBelt fun b => { b with eyes := b.eyes.set e f }

/-- The filtered level takes the raw level, which is an edge, R46. -/
def makeEdge (e : Eye) (s : State) : State :=
  let raw := s.rawLevel e
  takeEdge e raw (setFilter e { blocked := raw, count := 0 } s)

/-- An eye whose raw level, filter count or EYE_FILTER may have changed, R46 and R48: equal levels set the
count to 0, and with EYE_FILTER 0 a difference is an edge at once. -/
def settleEye (e : Eye) (s : State) : State :=
  let f := s.belt.eyes.get e
  if s.rawLevel e = f.blocked then setFilter e { f with count := 0 } s
  else if s.params.eyeFilter = 0 then makeEdge e s
  else s

/-- An encoder pulse at an eye's filter, R46. -/
def pulseEye (s : State) (e : Eye) : State :=
  let f := s.belt.eyes.get e
  if s.rawLevel e = f.blocked then s
  else if s.params.eyeFilter ≤ f.count + 1 then makeEdge e s
  else setFilter e { f with count := f.count + 1 } s

/-- An eye's input takes a level, R45 and R46; while the part is held in reset only the level changes. -/
def eyeInput (e : Eye) (high : Bool) (s : State) : State :=
  let changed := s.pins.eyes.get e != high
  let s := s.onPins fun p => { p with eyes := p.eyes.set e high }
  if changed ∧ s.inReset = false then settleEye e s else s

/-! ### The encoder -/

/-- The steps still due at the present P, taken in the order of notes/assumptions/5.md: expiries, fires,
dwell ends, lapses, misses, exits, jams. -/
def takeOutstanding (s : State) : State :=
  let s := sweepAll s
  let s := allArms.foldl (fun t a => fireArm a t) s
  let s := allArms.foldl (fun t a => endDwell a t) s
  let s := allArms.foldl (fun t a => lapseLastFire a t) s
  let s := (s.divert.queue.map (·.tag)).foldl (fun t tag => withLights (missEntry tag) t) s
  let s := (s.divert.queue.map (·.tag)).foldl (fun t tag => exitEntry tag t) s
  allArms.foldl (fun t a => withLights (jamArm a) t) s

/-- A count, R42: P rises by 1, wrapping, and what it makes due is marked. -/
def makeCount (s : State) : State :=
  markDue (s.onBelt fun b => { b with phase := 0, p := b.p + 1 })

/-- The prescale phase after a pulse, and the count it may make, R42. -/
def pulsePhase (s : State) : State :=
  if s.belt.phase + 1 = s.params.prescale then makeCount (takeOutstanding s)
  else s.onBelt fun b => { b with phase := b.phase + 1 }

/-- An encoder pulse, R42 and R46: the count, if any, comes before the edges it stamps. Its edges come before
the other steps the count makes due, the confirm deadline of R97 among them (DESIGN CHOICE,
notes/assumptions/31.md); a jam is taken before the clearing edge of its eye. -/
def encoderPulse (s : State) : State := allEyes.foldl pulseEye (pulsePhase s)

end Sys2Proof.Machine
end

