-- ==== Sys2Proof/Machine/Serve.lean ====
section
/-! DEFINITION. What is common to every request: R165 (room, source), R166 (the response) and R170 (the
request dropped). -/

namespace Sys2Proof.Machine

/-- The response frame of a request, R166. -/
def responseFrame (code : Byte) (q : Request) (a : Answer) : Frame :=
  { dest := q.source, source := a.state.link.node, kind := 0x11, tag := q.tag,
    payload := code :: a.result.code :: a.body }

/-- The response is formed at the end of the request and queued, R166. -/
def respond (code : Byte) (q : Request) (a : Answer) : State :=
  queueFrame (responseFrame code q a) a.state

/-- A request that finds the transmit queue full, R170. -/
def dropRequest (code : Byte) (s : State) : State :=
  count .linkErrors (report
    { kind := .linkError, detail := 0x05, position := some code.toNat } s)

/-- A REQUEST frame accepted for sorting, R165: room, source, then the owner. -/
def takeRequest (code : Byte) (own : List Byte → State → Answer) (q : Request) (s : State) : State :=
  if Config.txFrames ≤ s.link.txQueue.length then dropRequest code s
  else if q.source ≠ s.params.controlNode then respond code q (.refuse s .notPermitted)
  else respond code q (own q.body s)

/-- The receiver takes nothing while a PART_RESET response waits (R171) or the part is held in reset. -/
def unlessDeaf (f : State → State) (s : State) : State :=
  if s.inReset ∨ s.link.resetWait ≠ .idle then s else f s

/-- A request row: the frame is taken as R165 gives. -/
def serve (code : Byte) (own : List Byte → State → Answer) (q : Request) (s : State) :
    Host.Outcome State Fault Refusal :=
  .next (unlessDeaf (takeRequest code own q) s)

/-- An owner whose body is required to be empty, R165. -/
def emptyBody (own : State → Answer) (body : List Byte) (s : State) : Answer :=
  if body = [] then own s else .refuse s .badLength

end Sys2Proof.Machine
end

