-- ==== Sys2Proof/Machine/Belt.lean ====
section
/-! DEFINITION. The belt's commands (Chapter 3): INJECT_CAPTURE (R54), CAPTURE_EXPIRY (R55), ENCODER_PULSE
(R42), EYE_INPUT_CHANGE (R46). -/

namespace Sys2Proof.Machine

/-- INJECT_CAPTURE, R54. -/
def ownInjectCapture (body : List Byte) (s : State) : Answer :=
  if body.length ≠ 2 then .refuse s .badLength
  else if 1 ≤ s.params.lockLevel then .refuse s .locked
  else if 4095 < fieldAt body 0 2 then .refuse s .badField
  else if s.belt.eyes.cap.blocked then .refuse s .busy
  else if Config.captureList ≤ s.capture.list.length then .refuse s .noSpace
  else
    let t := makeCapture s.p (some (beyond s.p (fieldAt body 0 2))) s
    .ok t (toBytes 2 s.capture.nextTag.toNat ++ toBytes 2 s.p.toNat ++
      toBytes 1 t.capture.list.length)

/-- INJECT_CAPTURE, R54. -/
def execInjectCapture (q : Request) (s : State) : Host.Outcome State Fault Refusal :=
  serve 0x70 ownInjectCapture q s

/-- CAPTURE_EXPIRY, R55. -/
def execCaptureExpiry (s : State) : Host.Outcome State Fault Refusal :=
  .next (unlessInReset expireHead s)

/-- ENCODER_PULSE, R42 and R46. -/
def execEncoderPulse (s : State) : Host.Outcome State Fault Refusal :=
  .next (unlessInReset encoderPulse s)

/-- EYE_INPUT_CHANGE, R46. -/
def execEyeInputChange (e : Eye) (high : Bool) (s : State) : Host.Outcome State Fault Refusal :=
  .next (eyeInput e high s)

end Sys2Proof.Machine
end

