-- ==== Sys2Proof/Machine/Lanes.lean ====
section
/-! DEFINITION. The lane and arm requests (R101, R102, R108, R110), and the steps a count makes due at the
Divert Scheduler: FIRE, DWELL_END, LAST_FIRE_LAPSE, MISSED_DIVERT, EXIT, LANE_JAM. -/

namespace Sys2Proof.Machine

/-- ARM_LANES, R108. -/
def armLanes (s : State) : Answer :=
  if s.pause.stopAsserted then .refuse s .wrongState
  else if geometryConsistent s.params = false then
    { state := s, result := .inconsistent, body := toBytes 2 (leastExitDist s.params) }
  else .ok (setArmsLive s) (toBytes 1 1)

/-- ARM_LANES, R108. -/
def ownArmLanes (body : List Byte) (s : State) : Answer := emptyBody armLanes body s

/-- ARM_LANES, R108. -/
def execArmLanes (q : Request) (s : State) : Host.Outcome State Fault Refusal :=
  serve 0x50 ownArmLanes q s

/-- DISARM_LANES, R110: the effects of R109 if ARMS_LIVE was set. -/
def disarmLanes (s : State) : Answer :=
  if s.divert.armsLive then
    .ok (withLights clearArmsLive s)
      (toBytes 1 (s.divert.queue.filter Entry.isScheduled).length)
  else .ok s (toBytes 1 0)

/-- DISARM_LANES, R110. -/
def ownDisarmLanes (body : List Byte) (s : State) : Answer := emptyBody disarmLanes body s

/-- DISARM_LANES, R110. -/
def execDisarmLanes (q : Request) (s : State) : Host.Outcome State Fault Refusal :=
  serve 0x51 ownDisarmLanes q s

/-- The checks of LANE_ENABLE and LANE_DISABLE, and the lane states their response carries (R101, R102). -/
def withLane (own : Lane → State → State) (body : List Byte) (s : State) : Answer :=
  if body.length ≠ 1 then .refuse s .badLength
  else
    match laneOf (fieldAt body 0 1) with
    | none => .refuse s .badField
    | some n =>
      let t := own n s
      .ok t (toBytes 1 (t.divert.laneStates.get n).code ++
        toBytes 1 (t.divert.laneStates.get n).returnCode)

/-- LANE_ENABLE, R101. -/
def enableLane (n : Lane) (s : State) : State :=
  match s.divert.laneStates.get n with
  | .enabled => s
  | .disabled => runBinder (setLane n .enabled s)
  | .jammed _ => setLane n (.jammed .enabled) s

/-- LANE_DISABLE, R102. -/
def disableLane (n : Lane) (s : State) : State :=
  match s.divert.laneStates.get n with
  | .enabled => setLane n .disabled s
  | .disabled => s
  | .jammed _ => setLane n (.jammed .disabled) s

/-- LANE_ENABLE, R101. -/
def ownLaneEnable (body : List Byte) (s : State) : Answer := withLane enableLane body s

/-- LANE_ENABLE, R101. -/
def execLaneEnable (q : Request) (s : State) : Host.Outcome State Fault Refusal :=
  serve 0x52 ownLaneEnable q s

/-- LANE_DISABLE, R102. -/
def ownLaneDisable (body : List Byte) (s : State) : Answer := withLane disableLane body s

/-- LANE_DISABLE, R102. -/
def execLaneDisable (q : Request) (s : State) : Host.Outcome State Fault Refusal :=
  serve 0x53 ownLaneDisable q s

/-! ### Steps a count makes due. A step that is not due changes nothing (notes/assumptions/4.md). -/

/-- FIRE, R92. -/
def execFire (a : Arm) (s : State) : Host.Outcome State Fault Refusal :=
  .next (unlessInReset (fireArm a) s)

/-- DWELL_END, R93. -/
def execDwellEnd (a : Arm) (s : State) : Host.Outcome State Fault Refusal :=
  .next (unlessInReset (endDwell a) s)

/-- LAST_FIRE_LAPSE, R93. -/
def execLastFireLapse (a : Arm) (s : State) : Host.Outcome State Fault Refusal :=
  .next (unlessInReset (lapseLastFire a) s)

/-- MISSED_DIVERT, R96. -/
def execMissedDivert (tag : Tag) (s : State) : Host.Outcome State Fault Refusal :=
  .next (unlessInReset (withLights (missEntry tag)) s)

/-- EXIT, R98. -/
def execExit (tag : Tag) (s : State) : Host.Outcome State Fault Refusal :=
  .next (unlessInReset (exitEntry tag) s)

/-- LANE_JAM, R103 to R105. -/
def execLaneJam (a : Arm) (s : State) : Host.Outcome State Fault Refusal :=
  .next (unlessInReset (withLights (jamArm a)) s)

end Sys2Proof.Machine
end

