-- ==== Sys2Proof/Machine/Orders.lean ====
section
/-! DEFINITION. The order requests (Chapter 1): LOAD_ORDER (R3 to R5), CANCEL_ORDER (R18, R19), SHORT_CLOSE
(R17), READ_ORDER (R22), READ_POSITION (R23). -/

namespace Sys2Proof.Machine

/-! ### LOAD_ORDER -/

/-- A recipe line as received: primary group, substitute field, quantity (Section 9.8). -/
structure LineField where
  primary : Nat
  substitute : Nat
  quantity : Nat
  deriving DecidableEq, Repr

/-- The n lines of a LOAD_ORDER body, from byte 13. -/
def lineFields (body : List Byte) (n : Nat) : List LineField :=
  (List.range n).map fun i =>
    { primary := fieldAt body (13 + 5 * i) 2
      substitute := fieldAt body (15 + 5 * i) 2
      quantity := fieldAt body (17 + 5 * i) 1 }

/-- The field check of a line, R3. -/
def LineField.bad (l : LineField) : Bool :=
  1023 < l.primary || (l.substitute != 0xFFFF && 1023 < l.substitute) ||
    l.quantity < 1 || 15 < l.quantity

/-- Whether a line's substitute is dropped, R4. -/
def LineField.drops (l : LineField) : Bool := l.substitute != 0xFFFF && l.substitute == l.primary

/-- The line stored, R4 and R5. -/
def LineField.line (l : LineField) : RecipeLine :=
  { primary := l.primary
    substitute := if l.substitute = 0xFFFF ∨ l.drops then none else some l.substitute
    quantity := l.quantity
    reserved := 0
    placed := 0 }

/-- The drop mask, R4: bit i for line index i. -/
def dropMask (lines : List LineField) : Nat :=
  (lines.zipIdx.map fun x => if x.1.drops then 2 ^ x.2 else 0).sum

/-- The field checks of R3 step 2. -/
def orderFieldsBad (body : List Byte) (n : Nat) (lines : List LineField) : Bool :=
  fieldAt body 0 4 == 0 || 15 < fieldAt body 4 1 || n < 1 || 12 < n ||
    fieldAt body 8 2 == 0xFFFF || lines.any LineField.bad

/-- The weight budget used, R4. -/
def budgetUsed (v : Nat) : Nat := if v < 100 then 100 else if 30000 < v then 30000 else v

/-- The order record a load enters, R5. -/
def loadedOrder (body : List Byte) (slot : Nat) (lines : List LineField) : Order :=
  { slot := slot
    number := fieldAt body 0 4
    cls := fieldAt body 4 1
    dueWave := fieldAt body 6 2
    dispatchDay := fieldAt body 8 2
    budget := budgetUsed (fieldAt body 10 2)
    state := .staged
    position := none
    short := false
    lines := lines.map LineField.line
    placedWeight := 0
    reservedWeight := 0
    placedLayer := none
    layerCounts := [0, 0, 0, 0] }

/-- The release-now flag, bit 0 of the flags byte, R3. -/
def releaseNow (body : List Byte) : Bool := (body.getD 5 0).getLsbD 0

/-- An order enters: STAGED, or QUEUED with a run of the binder, R5. -/
def enterOrder (now : Bool) (o : Order) (s : State) : State :=
  let s := s.onBook fun b => b.enter o
  if now then runBinder (s.onBook fun b => b.enqueue o) else s

/-- The state code of a slot, 0 when EMPTY. -/
def OrderBook.stateCodeAt (b : OrderBook) (slot : Nat) : Nat :=
  ((b.atSlot slot).map fun o => o.state.code).getD 0

/-- An accepted LOAD_ORDER, R4 and R5. -/
def loadInto (slot : Nat) (body : List Byte) (lines : List LineField) (s : State) : Answer :=
  let o := loadedOrder body slot lines
  let t := enterOrder (releaseNow body) o s
  Answer.done t (o.budget != fieldAt body 10 2 || lines.any LineField.drops)
    (toBytes 1 slot ++ toBytes 1 (t.book.stateCodeAt slot) ++ toBytes 2 o.budget ++
      toBytes 2 (dropMask lines) ++ toBytes 2 t.book.freeLines)

/-- LOAD_ORDER, R3: the checks in sequence. -/
def ownLoadOrder (body : List Byte) (s : State) : Answer :=
  let n := fieldAt body 12 1
  let lines := lineFields body n
  if body.length < 13 ∨ body.length ≠ 13 + 5 * n then .refuse s .badLength
  else if orderFieldsBad body n lines then .refuse s .badField
  else if (s.book.byNumber (fieldAt body 0 4)).isSome then .refuse s .duplicate
  else
    match s.book.freeSlot with
    | none => .refuse s .noSpace
    | some slot =>
      if s.book.freeLines < n then .refuse s .noSpace else loadInto slot body lines s

/-- LOAD_ORDER, R3 to R5. -/
def execLoadOrder (q : Request) (s : State) : Host.Outcome State Fault Refusal :=
  serve 0x20 ownLoadOrder q s

/-! ### Requests that name an order -/

/-- The checks of a request that names an order by its number (R17, R18, R22). -/
def withOrder (own : Order → State → Answer) (body : List Byte) (s : State) : Answer :=
  if body.length ≠ 4 then .refuse s .badLength
  else if fieldAt body 0 4 = 0 then .refuse s .badField
  else
    match s.book.byNumber (fieldAt body 0 4) with
    | none => .refuse s .notFound
    | some o => own o s

/-- Whether an entry's destination is PLACE for a slot. -/
def Entry.isFor (slot : Nat) (e : Entry) : Bool :=
  match e.dest with
  | .place _ _ k _ _ => k == slot
  | _ => false

/-- What a cancel makes of a belt-queue entry, R19: SCHEDULED becomes OUTBOUND (CANCELLED), FIRED becomes
VOID-LANE on the same lane. -/
def Entry.cancelFor (slot : Nat) (e : Entry) : Entry :=
  match e.dest, e.state with
  | .place lane _ k _ _, .fired _ _ => if k = slot then { e with dest := .voidLane lane } else e
  | .place _ _ k _ _, .scheduled _ => if k = slot then { e with state := .outbound .cancelled } else e
  | _, _ => e

/-- Whether a chute entry is a PUT entry of a slot. -/
def ChuteEntry.isFor (slot : Nat) (e : ChuteEntry) : Bool :=
  match e.kind with
  | .put _ k _ => k == slot
  | _ => false

/-- What a cancel makes of a chute entry, R115: a PUT entry of the order becomes VOID in its place. -/
def ChuteEntry.cancelFor (slot : Nat) (e : ChuteEntry) : ChuteEntry :=
  if e.isFor slot then { e with kind := .void } else e

/-- The release for a PUT chute entry, R13. -/
def releaseChute (e : ChuteEntry) (s : State) : State :=
  match e.kind with
  | .put _ slot line => release slot line ((e.weight.map (·.grams)).getD 0) (e.layer.getD 0) s
  | _ => s

/-- The chute entries of all lanes, lane 1 first, head first. -/
def State.chuteEntries (s : State) : List ChuteEntry := s.wall.chutes.toList.flatten

/-- A cancel in flight, R19 and R115: the order is CANCELLED, its items are given up in their places, and
a release is made for each reservation they held. -/
def cancelInFlight (o : Order) (s : State) : State :=
  let entries := s.divert.queue.filter fun e => e.isFor o.slot && e.holdsReservation
  let puts := s.chuteEntries.filter (ChuteEntry.isFor o.slot)
  let s := s.onBook fun b => b.change o.slot fun x => { x with state := .cancelled }
  let s := s.onDivert fun d => { d with queue := d.queue.map (Entry.cancelFor o.slot) }
  let s := s.onWall fun w =>
    { w with chutes := w.chutes.map fun l => l.map (ChuteEntry.cancelFor o.slot) }
  puts.foldl (fun t e => releaseChute e t) (entries.foldl (fun t e => releaseEntry e t) s)

/-- CANCEL_ORDER of the order found, R18. -/
def cancelFound (o : Order) (s : State) : Answer :=
  match o.state with
  | .complete | .cancelled => .refuse s .wrongState
  | .staged | .queued =>
    .ok (count .ordersCancelled (s.onBook fun b => b.empty o)) (toBytes 1 0)
  | .opened | .shorting =>
    .ok (count .ordersCancelled (withLights (cancelInFlight o) s)) (toBytes 1 OrderState.cancelled.code)

/-- CANCEL_ORDER, R18. -/
def ownCancelOrder (body : List Byte) (s : State) : Answer := withOrder cancelFound body s

/-- CANCEL_ORDER, R18. -/
def execCancelOrder (q : Request) (s : State) : Host.Outcome State Fault Refusal :=
  serve 0x21 ownCancelOrder q s

/-- A short close of an OPEN order, R17. -/
def shortCloseOpen (o : Order) (s : State) : State :=
  if o.reservations = 0 then enterComplete o true s
  else s.onBook fun b => b.change o.slot fun x => { x with state := .shorting, short := true }

/-- SHORT_CLOSE of the order found, R17. -/
def shortCloseFound (o : Order) (s : State) : Answer :=
  if o.state = .opened then
    let t := withLights (shortCloseOpen o) s
    .ok t (toBytes 1 (if o.reservations = 0 then OrderState.complete.code
      else OrderState.shorting.code) ++ toBytes 1 o.reservations)
  else .refuse s .wrongState

/-- SHORT_CLOSE, R17. -/
def ownShortClose (body : List Byte) (s : State) : Answer := withOrder shortCloseFound body s

/-- SHORT_CLOSE, R17. -/
def execShortClose (q : Request) (s : State) : Host.Outcome State Fault Refusal :=
  serve 0x22 ownShortClose q s

/-- A recipe line in a READ_ORDER response. -/
def RecipeLine.bytes (l : RecipeLine) : List Byte :=
  toBytes 2 l.primary ++ toBytes 2 (l.substitute.getD 0xFFFF) ++ toBytes 1 l.quantity ++
    toBytes 1 l.reserved ++ toBytes 1 l.placed

/-- The order as READ_ORDER returns it, R22 and Section 9.8. -/
def Order.bytes (o : Order) : List Byte :=
  toBytes 1 o.slot ++ toBytes 1 o.cls ++ toBytes 2 o.dueWave ++ toBytes 2 o.dispatchDay ++
    toBytes 2 o.budget ++ toBytes 1 o.state.code ++
    toBytes 1 ((o.position.map fun p => laneNumber p.1).getD 0) ++
    toBytes 1 ((o.position.map (·.2)).getD 0) ++ toBytes 1 (flagNat o.short) ++
    toBytes 2 o.placedWeight ++ toBytes 2 o.reservedWeight ++
    toBytes 1 (o.placedLayer.getD 0xFF) ++ toBytes 1 o.layerLevel ++
    (List.range 4).flatMap (fun l => toBytes 1 (o.layerCounts.getD l 0)) ++
    toBytes 1 o.lines.length ++ o.lines.flatMap RecipeLine.bytes

/-- READ_ORDER, R22. -/
def ownReadOrder (body : List Byte) (s : State) : Answer :=
  withOrder (fun o s => .ok s o.bytes) body s

/-- READ_ORDER, R22. -/
def execReadOrder (q : Request) (s : State) : Host.Outcome State Fault Refusal :=
  serve 0x23 ownReadOrder q s

/-- The order fields of a READ_POSITION response: bound, number, slot, state. -/
def boundBytes : Option Order → List Byte
  | none => toBytes 1 0 ++ toBytes 4 0 ++ toBytes 1 0 ++ toBytes 1 0
  | some o => toBytes 1 1 ++ toBytes 4 o.number ++ toBytes 1 o.slot ++ toBytes 1 o.state.code

/-- READ_POSITION, R23. -/
def ownReadPosition (body : List Byte) (s : State) : Answer :=
  if body.length ≠ 2 then .refuse s .badLength
  else
    match laneOf (fieldAt body 0 1) with
    | none => .refuse s .badField
    | some n =>
      let position := fieldAt body 1 1
      if position < 1 ∨ Config.hamperPositions < position then .refuse s .badField
      else
        .ok s (toBytes 1 (light s n position).code ++
          toBytes 1 (s.divert.laneStates.get n).code ++ boundBytes (s.book.boundAt n position))

/-- READ_POSITION, R23. -/
def execReadPosition (q : Request) (s : State) : Host.Outcome State Fault Refusal :=
  serve 0x24 ownReadPosition q s

end Sys2Proof.Machine
end

