-- ==== Sys2Proof/Machine/Line.lean ====
section
/-! DEFINITION. Line stop, pause and LINE_CLEAR (Chapter 8). -/

namespace Sys2Proof.Machine

/-! ### PAUSE and RESUME -/

/-- PAUSE, R148. -/
def pauseRequest (s : State) : Answer :=
  let t := afterSource s.pause.wanted 0 (s.onPause fun c => { c with controlPause := true })
  .ok t (toBytes 1 t.pause.state.code)

/-- PAUSE, R148. -/
def ownPause (body : List Byte) (s : State) : Answer := emptyBody pauseRequest body s

/-- PAUSE, R148. -/
def execPause (q : Request) (s : State) : Host.Outcome State Fault Refusal :=
  serve 0x60 ownPause q s

/-- RESUME, R149. -/
def resumeRequest (s : State) : Answer :=
  let t := afterSource s.pause.wanted 0 (s.onPause fun c => { c with controlPause := false })
  .ok t (toBytes 1 t.pause.state.code ++ toBytes 1 (flagNat t.pause.requestAsserted))

/-- RESUME, R149. -/
def ownResume (body : List Byte) (s : State) : Answer := emptyBody resumeRequest body s

/-- RESUME, R149. -/
def execResume (q : Request) (s : State) : Host.Outcome State Fault Refusal :=
  serve 0x61 ownResume q s

/-! ### LINE_CLEAR -/

/-- The parts of an accepted LINE_CLEAR at the Capture Unit, the Divert Scheduler, the Put Wall Controller
and the Order Book, R157 parts 1 to 4 (R25, R61, R111, R128). -/
def clearLists (s : State) : State :=
  let entries := s.divert.queue.filter Entry.holdsReservation
  let puts := s.chuteEntries
  let s := s.onCapture fun u => { u with list := [] }
  let s := s.onDivert fun d => { d with queue := [], arms := PerArm.all ArmRec.reset }
  let s := s.onWall fun w => { w with chutes := PerLane.all [] }
  puts.foldl (fun t e => releaseChute e t) (entries.foldl (fun t e => releaseEntry e t) s)

/-- Whether a chute entry is a PUT entry, R112. -/
def ChuteEntry.isPut (e : ChuteEntry) : Bool :=
  match e.kind with
  | .put _ _ _ => true
  | _ => false

/-- The number of reservations a LINE_CLEAR releases, R156. -/
def State.reservationsHeld (s : State) : Nat :=
  (s.divert.queue.filter Entry.holdsReservation).length +
    (s.chuteEntries.filter ChuteEntry.isPut).length

/-- LINE_CLEAR, R156 and R157. -/
def lineClear (s : State) : Answer :=
  if s.pause.stopAsserted ∨ s.pause.state = .held then
    let t := drainTest (withLights clearLists s)
    .ok t (toBytes 1 s.capture.list.length ++ toBytes 1 s.divert.queue.length ++
      toBytes 1 s.chuteEntries.length ++ toBytes 1 s.reservationsHeld ++
      toBytes 1 t.pause.state.code)
  else .refuse s .wrongState

/-- LINE_CLEAR, R156. -/
def ownLineClear (body : List Byte) (s : State) : Answer := emptyBody lineClear body s

/-- LINE_CLEAR, R156 and R157. -/
def execLineClear (q : Request) (s : State) : Host.Outcome State Fault Refusal :=
  serve 0x62 ownLineClear q s

/-! ### The LINE_STOP input -/

/-- An assertion of LINE_STOP is taken, R144. -/
def stopAsserted (s : State) : State :=
  let live := s.divert.armsLive
  let s := s.onPause fun c => { c with stopAsserted := true }
  let s := if live then withLights clearArmsLive s else s
  report { kind := .lineStop, detail := flagNat live } s

/-- A release of LINE_STOP is taken, R145. -/
def stopReleased (s : State) : State :=
  let s := s.onPause fun c => { c with stopAsserted := false }
  if s.params.autoRearm = false then report { kind := .lineRelease, detail := 0 } s
  else if geometryConsistent s.params then
    report { kind := .lineRelease, detail := 1 } (setArmsLive s)
  else report { kind := .lineRelease, detail := 2 } s

/-- The LINE_STOP input takes a level, R143: a change is taken as an event, but not during a reset. -/
def lineStopInput (level : Bool) (s : State) : State :=
  let changed := s.pins.lineStop != level
  let s := s.onPins fun p => { p with lineStop := level }
  if changed ∧ s.inReset = false then
    if level then stopAsserted s else stopReleased s
  else s

/-- LINE_STOP_ASSERT, R144. -/
def execLineStopAssert (s : State) : Host.Outcome State Fault Refusal := .next (lineStopInput true s)

/-- LINE_STOP_RELEASE, R145. -/
def execLineStopRelease (s : State) : Host.Outcome State Fault Refusal :=
  .next (lineStopInput false s)

/-! ### The PAUSE_REQ input -/

/-- The PAUSE_REQ input takes a level, R147: a change is taken as an event, but not during a reset. A
withdrawal by it reports detail 1, R153. -/
def pauseReqInput (level : Bool) (s : State) : State :=
  let changed := s.pins.pauseReq != level
  let s := s.onPins fun p => { p with pauseReq := level }
  if changed ∧ s.inReset = false then
    afterSource s.pause.wanted 1 (s.onPause fun c => { c with requestAsserted := level })
  else s

/-- PAUSE_REQ_ASSERT, R147. -/
def execPauseReqAssert (s : State) : Host.Outcome State Fault Refusal := .next (pauseReqInput true s)

/-- PAUSE_REQ_RELEASE, R147. -/
def execPauseReqRelease (s : State) : Host.Outcome State Fault Refusal :=
  .next (pauseReqInput false s)

end Sys2Proof.Machine
end

