-- ==== Sys2Proof/Machine/Parameters.lean ====
section
/-! DEFINITION. The Parameter Store (Chapter 11): the parameter table (R180), SET_PARAM (R181), READ_PARAM
(R182) and SET_LOCK (R183), as the owner performs them. -/

namespace Sys2Proof.Machine

/-- The parameters of R180's table. -/
inductive Param where
  | prescale | laneDist (n : Lane) | rejectDist | exitDist | chuteCap (n : Lane)
  | laneClasses (n : Lane) | capturePolarity | lanePolarity | eyeFilter | lead | armDwell | armGap
  | confirmWindow | pairMin | pairMax | maxLen | jamLen | defaultAllow | controlNode | tunnelNode
  | noReadAction | maxPasses | distDiv | autoWave | autoRearm | reportMask
  deriving DecidableEq, Repr

/-- Lock classes, R180. -/
inductive LockClass where
  | free | timing | geometry
  deriving DecidableEq, Repr

/-- Lock class codes, Section 9.8. -/
def LockClass.code : LockClass → Nat
  | .free => 0 | .timing => 1 | .geometry => 2

/-- A parameter that is not per lane takes index 0, R181 step 1. -/
def plain (q : Param) (index : Nat) : Option Param := if index = 0 then some q else none

/-- The parameter of an identifier and index, R181 step 1. -/
def paramOf (id index : Nat) : Option Param :=
  match id with
  | 0x01 => plain .prescale index
  | 0x02 => (laneOf index).map .laneDist
  | 0x03 => plain .rejectDist index
  | 0x04 => plain .exitDist index
  | 0x05 => (laneOf index).map .chuteCap
  | 0x06 => (laneOf index).map .laneClasses
  | 0x07 => plain .capturePolarity index
  | 0x08 => plain .lanePolarity index
  | 0x09 => plain .eyeFilter index
  | 0x10 => plain .lead index
  | 0x11 => plain .armDwell index
  | 0x12 => plain .armGap index
  | 0x13 => plain .confirmWindow index
  | 0x14 => plain .pairMin index
  | 0x15 => plain .pairMax index
  | 0x16 => plain .maxLen index
  | 0x17 => plain .jamLen index
  | 0x18 => plain .defaultAllow index
  | 0x19 => plain .controlNode index
  | 0x1A => plain .tunnelNode index
  | 0x20 => plain .noReadAction index
  | 0x21 => plain .maxPasses index
  | 0x22 => plain .distDiv index
  | 0x23 => plain .autoWave index
  | 0x24 => plain .autoRearm index
  | 0x25 => plain .reportMask index
  | _ => none

/-- The lock class of a parameter, R180. -/
def Param.lockClass : Param → LockClass
  | .prescale | .laneDist _ | .rejectDist | .exitDist | .chuteCap _ | .laneClasses _
  | .capturePolarity | .lanePolarity | .eyeFilter => .geometry
  | .lead | .armDwell | .armGap | .confirmWindow | .pairMin | .pairMax | .maxLen | .jamLen
  | .defaultAllow | .controlNode | .tunnelNode => .timing
  | .noReadAction | .maxPasses | .distDiv | .autoWave | .autoRearm | .reportMask => .free

/-- Whether a parameter is a choice, R180: its listed values are 0 and 1. -/
def Param.isChoice : Param → Bool
  | .capturePolarity | .lanePolarity | .defaultAllow | .noReadAction | .autoRearm => true
  | _ => false

/-- A number brought into a range, R181 step 5. -/
def clamp (lo hi v : Nat) : Nat := if v < lo then lo else if hi < v then hi else v

/-- The value used, R181 step 5: a number clamped to its range, a mask cut to its width. The ranges of
ARM_GAP, PAIR_MAX and MAX_LEN are taken with ARM_DWELL and PAIR_MIN as they stand. -/
def Param.clampIn (p : Params) (v : Nat) : Param → Nat
  | .prescale => clamp 1 16 v
  | .laneDist _ | .rejectDist | .exitDist => clamp 1 60000 v
  | .chuteCap _ => clamp 1 8 v
  | .laneClasses _ => v % 2 ^ 16
  | .eyeFilter => clamp 0 15 v
  | .lead => clamp 0 255 v
  | .armDwell => clamp 1 255 v
  | .armGap => clamp p.armDwell 1023 v
  | .confirmWindow => clamp 1 1023 v
  | .pairMin => clamp 0 4095 v
  | .pairMax => clamp (p.pairMin + 1) 8191 v
  | .maxLen => if p.pairMin = 0 then 0 else clamp 1 p.pairMin v
  | .jamLen => clamp 16 4095 v
  | .controlNode | .tunnelNode => clamp 0x01 0xFE v
  | .maxPasses => clamp 1 7 v
  | .distDiv => clamp 1 4096 v
  | .autoWave => clamp 0 255 v
  | .reportMask => v % 2 ^ 22
  | .capturePolarity | .lanePolarity | .defaultAllow | .noReadAction | .autoRearm => v

/-- The value of a parameter as a number, R182. -/
def Params.read (p : Params) : Param → Nat
  | .prescale => p.prescale
  | .laneDist n => p.laneDist.get n
  | .rejectDist => p.rejectDist
  | .exitDist => p.exitDist
  | .chuteCap n => p.chuteCap.get n
  | .laneClasses n => (p.laneClasses.get n).toNat
  | .capturePolarity => if p.capturePolarity = .blockedLow then 1 else 0
  | .lanePolarity => if p.lanePolarity = .blockedLow then 1 else 0
  | .eyeFilter => p.eyeFilter
  | .lead => p.lead
  | .armDwell => p.armDwell
  | .armGap => p.armGap
  | .confirmWindow => p.confirmWindow
  | .pairMin => p.pairMin
  | .pairMax => p.pairMax
  | .maxLen => p.maxLen
  | .jamLen => p.jamLen
  | .defaultAllow => if p.defaultAllow = .refuse then 1 else 0
  | .controlNode => p.controlNode.toNat
  | .tunnelNode => p.tunnelNode.toNat
  | .noReadAction => if p.noReadAction = .reject then 1 else 0
  | .maxPasses => p.maxPasses
  | .distDiv => p.distDiv
  | .autoWave => p.autoWave
  | .autoRearm => flagNat p.autoRearm
  | .reportMask => p.reportMask.toNat

/-- A value is stored, R181; ARM_DWELL and PAIR_MIN carry their dependants along. -/
def Params.store (p : Params) (v : Nat) : Param → Params
  | .prescale => { p with prescale := v }
  | .laneDist n => { p with laneDist := p.laneDist.set n v }
  | .rejectDist => { p with rejectDist := v }
  | .exitDist => { p with exitDist := v }
  | .chuteCap n => { p with chuteCap := p.chuteCap.set n v }
  | .laneClasses n => { p with laneClasses := p.laneClasses.set n (BitVec.ofNat 16 v) }
  | .capturePolarity => { p with capturePolarity := if v = 0 then .blockedHigh else .blockedLow }
  | .lanePolarity => { p with lanePolarity := if v = 0 then .blockedHigh else .blockedLow }
  | .eyeFilter => { p with eyeFilter := v }
  | .lead => { p with lead := v }
  | .armDwell => { p with armDwell := v, armGap := max p.armGap v }
  | .armGap => { p with armGap := v }
  | .confirmWindow => { p with confirmWindow := v }
  | .pairMin =>
    { p with pairMin := v, pairMax := max p.pairMax (v + 1), maxLen := min p.maxLen v }
  | .pairMax => { p with pairMax := v }
  | .maxLen => { p with maxLen := v }
  | .jamLen => { p with jamLen := v }
  | .defaultAllow => { p with defaultAllow := if v = 0 then .allow else .refuse }
  | .controlNode => { p with controlNode := BitVec.ofNat 8 v }
  | .tunnelNode => { p with tunnelNode := BitVec.ofNat 8 v }
  | .noReadAction => { p with noReadAction := if v = 0 then .recirculate else .reject }
  | .maxPasses => { p with maxPasses := v }
  | .distDiv => { p with distDiv := v }
  | .autoWave => { p with autoWave := v }
  | .autoRearm => { p with autoRearm := v != 0 }
  | .reportMask => { p with reportMask := BitVec.ofNat 22 v }

/-- Whether a write carried a dependant along, R181. -/
def dependantChanged (before after : Params) : Param → Bool
  | .armDwell => before.armGap != after.armGap
  | .pairMin => before.pairMax != after.pairMax || before.maxLen != after.maxLen
  | _ => false

/-- What blocks do at the write itself, R181: PRESCALE by R43, the polarities by R45, EYE_FILTER by R48,
PAIR_MAX by R55, LANE_CLASSES by R7. -/
def paramWritten (q : Param) (s : State) : State :=
  match q with
  | .prescale => s.onBelt fun b => { b with phase := 0 }
  | .capturePolarity => settleEye .cap s
  | .lanePolarity => (allArms.map Eye.chute).foldl (fun t e => settleEye e t) s
  | .eyeFilter =>
    allEyes.foldl (fun t e => settleEye e t)
      (s.onBelt fun b => { b with eyes := b.eyes.map fun f => { f with count := 0 } })
  | .pairMax => sweepAll s
  | .laneClasses _ => runBinder s
  | _ => s

/-- Whether the lock level forbids writing a lock class, R181 step 3 and R183. -/
def lockForbids (level : Nat) : LockClass → Bool
  | .free => false
  | .timing => 2 ≤ level
  | .geometry => 1 ≤ level

/-- Whether a CHUTE_CAP lies below its lane's committed count, R181 step 6. -/
def belowLoad (s : State) (v : Nat) : Param → Bool
  | .chuteCap n => v < s.committed n
  | _ => false

/-- The values a write returns after the value stored, R181. -/
def dependantBytes (p : Params) : Param → List Byte
  | .armDwell => toBytes 4 p.armGap
  | .pairMin => toBytes 4 p.pairMax ++ toBytes 4 p.maxLen
  | _ => []

/-- A write that passes the six checks, R181. -/
def writeParam (q : Param) (id index v : Nat) (s : State) : Answer :=
  let used := q.clampIn s.params v
  let params := s.params.store used q
  Answer.done (paramWritten q { s with params := params })
    (used != v || dependantChanged s.params params q)
    (toBytes 1 id ++ toBytes 1 index ++ toBytes 4 used ++ dependantBytes params q)

/-- Steps 2 to 6 of SET_PARAM, R181. -/
def checkedWrite (q : Param) (id index v : Nat) (s : State) : Answer :=
  if q.isChoice ∧ 1 < v then .refuse s .badField
  else if lockForbids s.params.lockLevel q.lockClass then .refuse s .locked
  else if q.lockClass ≠ .free ∧ s.divert.armsLive then .refuse s .wrongState
  else if belowLoad s (q.clampIn s.params v) q then .refuse s .wrongState
  else writeParam q id index v s

/-- SET_PARAM, R181. -/
def ownSetParam (body : List Byte) (s : State) : Answer :=
  if body.length ≠ 6 then .refuse s .badLength
  else
    match paramOf (fieldAt body 0 1) (fieldAt body 1 1) with
    | none => .refuse s .badField
    | some q => checkedWrite q (fieldAt body 0 1) (fieldAt body 1 1) (fieldAt body 2 4) s

/-- READ_PARAM, R182. -/
def ownReadParam (body : List Byte) (s : State) : Answer :=
  if body.length ≠ 2 then .refuse s .badLength
  else
    match paramOf (fieldAt body 0 1) (fieldAt body 1 1) with
    | none => .refuse s .badField
    | some q =>
      .ok s (body ++ toBytes 4 (s.params.read q) ++ toBytes 1 q.lockClass.code)

/-- SET_LOCK, R183. -/
def ownSetLock (body : List Byte) (s : State) : Answer :=
  if body.length ≠ 1 then .refuse s .badLength
  else
    let level := fieldAt body 0 1
    if 2 < level then .refuse s .badField
    else if level < s.params.lockLevel then .refuse s .locked
    else .ok (s.onParams fun p => { p with lockLevel := level }) (toBytes 1 level)

/-- SET_PARAM, R181. -/
def execSetParam (q : Request) (s : State) : Host.Outcome State Fault Refusal :=
  serve 0x10 ownSetParam q s

/-- READ_PARAM, R182. -/
def execReadParam (q : Request) (s : State) : Host.Outcome State Fault Refusal :=
  serve 0x11 ownReadParam q s

/-- SET_LOCK, R183. -/
def execSetLock (q : Request) (s : State) : Host.Outcome State Fault Refusal :=
  serve 0x12 ownSetLock q s

end Sys2Proof.Machine
end

