-- ==== Sys2Proof/Machine/Products.lean ====
section
/-! DEFINITION. The catalogue requests (R28 to R31) and the refusal-record requests (R40, R41). -/

namespace Sys2Proof.Machine

/-- A stock code no record may hold, R28 and R30. -/
def badCode (code : Nat) : Bool := code == 0 || code == 0xFFFFFF

/-- Insert or replace a record, keeping the table in ascending stock-code order, R29. -/
def insertProduct (r : Product) : List Product → List Product
  | [] => [r]
  | x :: xs =>
    if r.code < x.code then r :: x :: xs
    else if r.code = x.code then r :: xs
    else x :: insertProduct r xs

/-- The rank of a stock code: the number of records with a lower one, R26. -/
def rankOf (code : Nat) (t : List Product) : Nat := (t.filter fun r => r.code < code).length

/-- The tolerance used, R29. -/
def toleranceUsed (v : Nat) : Nat := if 50 < v then 50 else v

/-- The record of a LOAD_PRODUCT body, Section 9.8. -/
def productOf (body : List Byte) : Product :=
  { code := fieldAt body 0 3
    group := fieldAt body 3 2
    layer := fieldAt body 5 1
    nominal := fieldAt body 6 2
    tolerance := toleranceUsed (fieldAt body 8 1)
    dated := (body.getD 9 0).getLsbD 0 }

/-- The field checks of R28 step 2. -/
def productBad (r : Product) : Bool :=
  badCode r.code || 1023 < r.group || 3 < r.layer || r.nominal == 0 || r.nominal == 0xFFFF

/-- LOAD_PRODUCT, R28 and R29. -/
def ownLoadProduct (body : List Byte) (s : State) : Answer :=
  if body.length ≠ 10 then .refuse s .badLength
  else
    let r := productOf body
    let held := (lookup r.code s.catalogue).isSome
    if productBad r then .refuse s .badField
    else if held = false ∧ Config.catalogueRecords ≤ s.catalogue.length then .refuse s .noSpace
    else
      let t := insertProduct r s.catalogue
      Answer.done (s.onCatalogue fun _ => t) (r.tolerance != fieldAt body 8 1)
        (toBytes 1 (flagNat held) ++ toBytes 2 (rankOf r.code t) ++ toBytes 2 t.length ++
          toBytes 1 r.tolerance)

/-- LOAD_PRODUCT, R28 and R29. -/
def execLoadProduct (q : Request) (s : State) : Host.Outcome State Fault Refusal :=
  serve 0x30 ownLoadProduct q s

/-- DELETE_PRODUCT, R30. -/
def ownDeleteProduct (body : List Byte) (s : State) : Answer :=
  if body.length ≠ 3 then .refuse s .badLength
  else
    let code := fieldAt body 0 3
    if badCode code then .refuse s .badField
    else if (lookup code s.catalogue).isNone then .refuse s .notFound
    else
      let t := s.catalogue.filter fun r => r.code != code
      .ok (s.onCatalogue fun _ => t) (toBytes 2 (rankOf code s.catalogue) ++ toBytes 2 t.length)

/-- DELETE_PRODUCT, R30. -/
def execDeleteProduct (q : Request) (s : State) : Host.Outcome State Fault Refusal :=
  serve 0x31 ownDeleteProduct q s

/-- A record as READ_PRODUCT returns it, R31 and Section 9.8. -/
def productBytes (r : Product) (t : List Product) : List Byte :=
  toBytes 3 r.code ++ toBytes 2 r.group ++ toBytes 1 r.layer ++ toBytes 2 r.nominal ++
    toBytes 1 r.tolerance ++ toBytes 1 (flagNat r.dated) ++ toBytes 2 (rankOf r.code t) ++
    toBytes 2 t.length

/-- The answer of READ_PRODUCT for the record found. -/
def readFound (found : Option Product) (s : State) : Answer :=
  match found with
  | none => .refuse s .notFound
  | some r => .ok s (productBytes r s.catalogue)

/-- READ_PRODUCT, R31: the body's length selects stock code or rank. -/
def ownReadProduct (body : List Byte) (s : State) : Answer :=
  if body.length = 3 then
    if badCode (fieldAt body 0 3) then .refuse s .badField
    else readFound (lookup (fieldAt body 0 3) s.catalogue) s
  else if body.length = 2 then
    if Config.catalogueRecords ≤ fieldAt body 0 2 then .refuse s .badField
    else readFound (s.catalogue[fieldAt body 0 2]?) s
  else .refuse s .badLength

/-- READ_PRODUCT, R31. -/
def execReadProduct (q : Request) (s : State) : Host.Outcome State Fault Refusal :=
  serve 0x32 ownReadProduct q s

/-- The refusal record's fields in a READ_REFUSAL response, R40; all 0 while the record is empty. -/
def refusedBytes : Option Refused → List Byte
  | none => toBytes 1 0 ++ toBytes 3 0 ++ toBytes 1 0 ++ toBytes 1 0 ++ toBytes 1 0 ++ toBytes 2 0 ++
      toBytes 4 0
  | some r => toBytes 1 1 ++ toBytes 3 r.stock ++ toBytes 1 r.cls ++ toBytes 1 r.kind.code ++
      toBytes 1 r.cause.code ++ toBytes 2 r.wave ++ toBytes 4 r.order

/-- READ_REFUSAL, R40. -/
def ownReadRefusal (body : List Byte) (s : State) : Answer :=
  emptyBody (fun s => .ok s (refusedBytes s.ranges.record ++ toBytes 2 s.ranges.count ++
    toBytes 1 (flagNat s.ranges.more))) body s

/-- READ_REFUSAL, R40. -/
def execReadRefusal (q : Request) (s : State) : Host.Outcome State Fault Refusal :=
  serve 0x05 ownReadRefusal q s

/-- CLEAR_REFUSAL, R41. -/
def ownClearRefusal (body : List Byte) (s : State) : Answer :=
  emptyBody (fun s => .ok
    (s.onRanges fun u => { u with record := none, count := 0, more := false })
    (toBytes 2 s.ranges.count ++ toBytes 1 (flagNat s.ranges.more))) body s

/-- CLEAR_REFUSAL, R41. -/
def execClearRefusal (q : Request) (s : State) : Host.Outcome State Fault Refusal :=
  serve 0x06 ownClearRefusal q s

end Sys2Proof.Machine
end

