-- ==== Sys2Proof/Machine/Status.lean ====
section
/-! DEFINITION. The status requests (Chapter 10): READ_IDENT (R178), READ_STATUS (R177), CLEAR_FLAGS (R174),
READ_COUNTERS (R176). -/

namespace Sys2Proof.Machine

/-- The fourteen counts of R178's table, in its order. -/
def identCounts : List Nat :=
  [Config.orderSlots, Config.poolLines, Config.catalogueRecords, Config.classRanges, Config.classes,
    Config.lanes, Config.hamperPositions, Config.captureList, Config.beltQueue, Config.chuteList,
    Config.recircRecords, Config.txFrames, Config.eventKinds, Config.counters]

/-- READ_IDENT, R178. -/
def ownReadIdent (body : List Byte) (s : State) : Answer :=
  emptyBody (fun s => .ok s (toBytes 2 Config.deviceCode ++ toBytes 1 Config.revision ++
    [s.link.node] ++ identCounts.flatMap (toBytes 2))) body s

/-- READ_IDENT, R178. -/
def execReadIdent (q : Request) (s : State) : Host.Outcome State Fault Refusal :=
  serve 0x01 ownReadIdent q s

/-- A lane's state and return state in a READ_STATUS response. -/
def laneStateBytes (st : LaneState) : List Byte := toBytes 1 st.code ++ toBytes 1 st.returnCode

/-- The READ_STATUS response body, R177 and Section 9.8. -/
def statusBytes (s : State) : List Byte :=
  toBytes 1 s.pause.state.code ++ toBytes 1 (flagNat s.pause.controlPause) ++
    toBytes 1 (flagNat s.pause.requestAsserted) ++ toBytes 1 (flagNat s.pause.stopAsserted) ++
    toBytes 1 (flagNat s.divert.armsLive) ++ toBytes 1 s.params.lockLevel ++
    toBytes 2 s.wave.counter ++ toBytes 2 s.wave.releases ++ toBytes 1 s.wave.latch.code ++
    s.divert.laneStates.toList.flatMap laneStateBytes ++
    toBytes 1 (if s.divert.rejectJammed then 2 else 0) ++ toBytes 4 s.status.flags.toNat ++
    [s.link.seq]

/-- READ_STATUS, R177. -/
def ownReadStatus (body : List Byte) (s : State) : Answer :=
  emptyBody (fun s => .ok s (statusBytes s)) body s

/-- READ_STATUS, R177. -/
def execReadStatus (q : Request) (s : State) : Host.Outcome State Fault Refusal :=
  serve 0x02 ownReadStatus q s

/-- CLEAR_FLAGS, R174. -/
def ownClearFlags (body : List Byte) (s : State) : Answer :=
  if body.length ≠ 4 then .refuse s .badLength
  else
    let after := clearFlags (BitVec.ofNat 32 (fieldAt body 0 4)) s.status.flags
    .ok (s.onStatus fun u => { u with flags := after })
      (toBytes 4 s.status.flags.toNat ++ toBytes 4 after.toNat)

/-- CLEAR_FLAGS, R174. -/
def execClearFlags (q : Request) (s : State) : Host.Outcome State Fault Refusal :=
  serve 0x03 ownClearFlags q s

/-- READ_COUNTERS, R176. -/
def ownReadCounters (body : List Byte) (s : State) : Answer :=
  if body.length ≠ 3 then .refuse s .badLength
  else
    let first := fieldAt body 0 1
    let n := fieldAt body 1 1
    let option := fieldAt body 2 1
    if 21 < first ∨ n = 0 ∨ Config.counters < first + n ∨ 1 < option then .refuse s .badField
    else
      .ok (if option = 1 then
          s.onStatus fun u => { u with counters := clearRun first n u.counters } else s)
        (toBytes 1 first ++ toBytes 1 n ++
          ((s.status.counters.drop first).take n).flatMap (toBytes 4))

/-- READ_COUNTERS, R176. -/
def execReadCounters (q : Request) (s : State) : Host.Outcome State Fault Refusal :=
  serve 0x04 ownReadCounters q s

end Sys2Proof.Machine
end

