-- ==== Sys2Proof/Machine/Waves.lean ====
section
/-! DEFINITION. The wave requests (Chapter 7): STAGE_RANGE (R132, R133), STAGE_CLASS (R134), READ_RANGE and
READ_CLASS (R135), ADVANCE_WAVE (R139). -/

namespace Sys2Proof.Machine

/-- A start code rounded down to a multiple of 16, R133. -/
def roundStart (v : Nat) : Nat := v / 16 * 16

/-- An end code rounded up to the form 16n + 15, R133. -/
def roundEnd (v : Nat) : Nat := v / 16 * 16 + 15

/-- The staged entry of a STAGE_RANGE body, R132 and R133. -/
def rangeOf (body : List Byte) : RangeEntry :=
  { valid := fieldAt body 1 1 == 1
    start := roundStart (fieldAt body 2 3)
    stop := roundEnd (fieldAt body 5 3)
    check := BitVec.ofNat 16 (fieldAt body 8 2)
    primary := BitVec.ofNat 16 (fieldAt body 10 2)
    substitute := BitVec.ofNat 16 (fieldAt body 12 2) }

/-- STAGE_RANGE, R132 and R133. -/
def ownStageRange (body : List Byte) (s : State) : Answer :=
  if body.length ≠ 14 then .refuse s .badLength
  else
    let index := fieldAt body 0 1
    if Config.classRanges ≤ index ∨ 1 < fieldAt body 1 1 ∨ fieldAt body 5 3 < fieldAt body 2 3 then
      .refuse s .badField
    else
      let r := rangeOf body
      Answer.done (s.onWave fun w => { w with ranges := w.ranges.set index r })
        (r.start != fieldAt body 2 3 || r.stop != fieldAt body 5 3)
        (toBytes 1 index ++ toBytes 3 r.start ++ toBytes 3 r.stop ++ toBytes 1 (flagNat r.valid))

/-- STAGE_RANGE, R132 and R133. -/
def execStageRange (q : Request) (s : State) : Host.Outcome State Fault Refusal :=
  serve 0x38 ownStageRange q s

/-- STAGE_CLASS, R134. -/
def ownStageClass (body : List Byte) (s : State) : Answer :=
  if body.length ≠ 3 then .refuse s .badLength
  else
    let cls := fieldAt body 0 1
    if Config.classes ≤ cls ∨ 1 < fieldAt body 2 1 then .refuse s .badField
    else
      let e : ClassEntry := { shelfDays := fieldAt body 1 1, layerRule := fieldAt body 2 1 == 1 }
      .ok (s.onWave fun w => { w with classes := w.classes.set cls e })
        (toBytes 1 cls ++ toBytes 1 e.shelfDays ++ toBytes 1 (flagNat e.layerRule))

/-- STAGE_CLASS, R134. -/
def execStageClass (q : Request) (s : State) : Host.Outcome State Fault Refusal :=
  serve 0x39 ownStageClass q s

/-- A range entry in a READ_RANGE response, Section 9.8. -/
def RangeEntry.bytes (r : RangeEntry) : List Byte :=
  toBytes 1 (flagNat r.valid) ++ toBytes 3 r.start ++ toBytes 3 r.stop ++ toBytes 2 r.check.toNat ++
    toBytes 2 r.primary.toNat ++ toBytes 2 r.substitute.toNat

/-- READ_RANGE, R135: selector 0 the active table, 1 the staged table. -/
def ownReadRange (body : List Byte) (s : State) : Answer :=
  if body.length ≠ 2 then .refuse s .badLength
  else if 1 < fieldAt body 0 1 ∨ Config.classRanges ≤ fieldAt body 1 1 then .refuse s .badField
  else
    let t := if fieldAt body 0 1 = 0 then s.ranges.ranges else s.wave.ranges
    .ok s (body ++ (t.getD (fieldAt body 1 1) RangeEntry.reset).bytes)

/-- READ_RANGE, R135. -/
def execReadRange (q : Request) (s : State) : Host.Outcome State Fault Refusal :=
  serve 0x3A ownReadRange q s

/-- READ_CLASS, R135. -/
def ownReadClass (body : List Byte) (s : State) : Answer :=
  if body.length ≠ 2 then .refuse s .badLength
  else if 1 < fieldAt body 0 1 ∨ Config.classes ≤ fieldAt body 1 1 then .refuse s .badField
  else
    let t := if fieldAt body 0 1 = 0 then s.ranges.classes else s.wave.classes
    let e := t.getD (fieldAt body 1 1) ClassEntry.reset
    .ok s (body ++ toBytes 1 e.shelfDays ++ toBytes 1 (flagNat e.layerRule))

/-- READ_CLASS, R135. -/
def execReadClass (q : Request) (s : State) : Host.Outcome State Fault Refusal :=
  serve 0x3B ownReadClass q s

/-- ADVANCE_WAVE, R139: performed at once, latched while HELD, or BUSY while a latch is held. -/
def requestAdvance (s : State) : Answer :=
  if s.wave.latch ≠ .notHeld then
    { state := s, result := .busy, body := toBytes 2 s.wave.counter }
  else if s.pause.state = .held then
    .ok (s.onWave fun w => { w with latch := .requested })
      (toBytes 1 1 ++ toBytes 2 s.wave.counter ++ toBytes 2 s.wave.releases ++ toBytes 2 0)
  else
    let t := advance 0 s
    .ok t (toBytes 1 0 ++ toBytes 2 t.wave.counter ++ toBytes 2 s.wave.releases ++
      toBytes 2 s.book.staged.length)

/-- ADVANCE_WAVE, R139. -/
def ownAdvanceWave (body : List Byte) (s : State) : Answer := emptyBody requestAdvance body s

/-- ADVANCE_WAVE, R139. -/
def execAdvanceWave (q : Request) (s : State) : Host.Outcome State Fault Refusal :=
  serve 0x40 ownAdvanceWave q s

end Sys2Proof.Machine
end

