-- ==== Sys2Proof/Machine/Link.lean ====
section
/-! DEFINITION. The Intake Link Interface (Chapter 9): receiving frames (R159 to R165), the transmit queue's
sends (R168), PART_RESET (R171), the lane link's commands, and the reset inputs (R184). -/

namespace Sys2Proof.Machine

/-! ### PART_RESET -/

/-- PART_RESET, R171: from its acceptance the receiver is deaf and no frame is queued but its response. -/
def ownPartReset (body : List Byte) (s : State) : Answer :=
  emptyBody (fun s => .ok (s.onLink fun l => { l with resetWait := .waiting }) []) body s

/-- PART_RESET, R171. -/
def execPartReset (q : Request) (s : State) : Host.Outcome State Fault Refusal :=
  serve 0x7F ownPartReset q s

/-- PART_RESET_TAKEN, R171: nothing changes unless the response of an accepted PART_RESET has been sent. -/
def execPartResetTaken (s : State) : Host.Outcome State Fault Refusal :=
  .next (if s.link.resetWait = .sent then takeReset .partReset s else s)

/-! ### Requests on the link -/

/-- The owner of a request code, Section 9.7. -/
def ownerOf (code : Byte) : Option (List Byte → State → Answer) :=
  match code.toNat with
  | 0x01 => some ownReadIdent
  | 0x02 => some ownReadStatus
  | 0x03 => some ownClearFlags
  | 0x04 => some ownReadCounters
  | 0x05 => some ownReadRefusal
  | 0x06 => some ownClearRefusal
  | 0x10 => some ownSetParam
  | 0x11 => some ownReadParam
  | 0x12 => some ownSetLock
  | 0x20 => some ownLoadOrder
  | 0x21 => some ownCancelOrder
  | 0x22 => some ownShortClose
  | 0x23 => some ownReadOrder
  | 0x24 => some ownReadPosition
  | 0x30 => some ownLoadProduct
  | 0x31 => some ownDeleteProduct
  | 0x32 => some ownReadProduct
  | 0x38 => some ownStageRange
  | 0x39 => some ownStageClass
  | 0x3A => some ownReadRange
  | 0x3B => some ownReadClass
  | 0x40 => some ownAdvanceWave
  | 0x50 => some ownArmLanes
  | 0x51 => some ownDisarmLanes
  | 0x52 => some ownLaneEnable
  | 0x53 => some ownLaneDisable
  | 0x60 => some ownPause
  | 0x61 => some ownResume
  | 0x62 => some ownLineClear
  | 0x70 => some ownInjectCapture
  | 0x7F => some ownPartReset
  | _ => none

/-- A REQUEST frame accepted for sorting, R165. -/
def requestFrame (source tag : Byte) (payload : List Byte) (s : State) : State :=
  match payload with
  | [] => takeRequest 0x00 (fun _ t => .refuse t .badLength) { source, tag, body := [] } s
  | code :: body =>
    takeRequest code ((ownerOf code).getD fun _ t => .refuse t .unknownRequest)
      { source, tag, body } s

/-! ### Sorting -/

/-- The scan record of a payload, R164. -/
def scanOf (payload : List Byte) : Scan :=
  { stock := fieldAt payload 0 3
    carrier := fieldAt payload 3 2
    weight := fieldAt payload 5 2
    bestBefore := fieldAt payload 7 2
    status := fieldAt payload 9 1 }

/-- A SCAN frame, R163 and R164. -/
def scanFrame (source : Byte) (payload : List Byte) (s : State) : State :=
  if source ≠ s.params.tunnelNode then count .foreignFrames s
  else if payload.length ≠ 10 then linkError 0x04 s
  else scanArrival (scanOf payload) s

/-- A frame accepted for sorting, R163. -/
def sortFrame (kind source tag : Byte) (payload : List Byte) (s : State) : State :=
  if kind = 0x01 then scanFrame source payload s
  else if kind = 0x10 then requestFrame source tag payload s
  else if kind = 0x11 ∨ kind = 0x20 then count .foreignFrames s
  else linkError 0x03 s

/-- A complete frame is judged, R160 and R161: its check, then its destination. -/
def judgeFrame (covered : List Byte) (check : List Byte) (s : State) : State :=
  if crcBytes covered ≠ check then linkError 0x01 s
  else if covered.getD 0 0 ≠ s.link.node then s
  else sortFrame (covered.getD 2 0) (covered.getD 1 0) (covered.getD 3 0) (covered.drop 6) s

/-- The receive state changes. -/
def setRx (rx : IntakeRx) (s : State) : State := s.onLink fun l => { l with rx := rx }

/-- A header complete, R159: N is examined. -/
def headerComplete (covered : List Byte) (s : State) : State :=
  let n := fieldAt covered 4 2
  if Config.maxPayload < n then linkError 0x02 (setRx .hunting s)
  else if n = 0 then setRx (.check covered none) s
  else setRx (.payload covered n) s

/-- A byte of the intake link, R159. -/
def takeByte (b : Byte) (s : State) : State :=
  match s.link.rx with
  | .hunting => if b = 0xA5 then setRx (.header []) s else s
  | .header covered =>
    if covered.length < 5 then setRx (.header (covered ++ [b])) s
    else headerComplete (covered ++ [b]) s
  | .payload covered left =>
    if left ≤ 1 then setRx (.check (covered ++ [b]) none) s
    else setRx (.payload (covered ++ [b]) (left - 1)) s
  | .check covered none => setRx (.check covered (some b)) s
  | .check covered (some hi) => judgeFrame covered [hi, b] (setRx .hunting s)

/-- The bytes of the intake link in the order received; a deaf receiver discards them, R171. -/
def intakeBytes (bytes : List Byte) (s : State) : State :=
  bytes.foldl (fun t b => unlessDeaf (takeByte b) t) s

/-- INTAKE_FRAME_RECEIVED, R159 to R165. -/
def execIntakeFrameReceived (bytes : List Byte) (s : State) : Host.Outcome State Fault Refusal :=
  .next (intakeBytes bytes s)

/-! ### Sending -/

/-- The last byte of the frame being sent is out, R168: it leaves the queue and the next is begun. When
the queue is then empty while a PART_RESET response waited, that response has been sent, R171. -/
def frameSent (s : State) : State :=
  if s.link.sending then
    s.onLink fun l =>
      { l with
        txQueue := l.txQueue.drop 1
        sending := !(l.txQueue.drop 1).isEmpty
        resetWait :=
          if l.resetWait = .waiting ∧ (l.txQueue.drop 1).isEmpty then .sent else l.resetWait }
  else s

/-- INTAKE_FRAME_SENT, R168. -/
def execIntakeFrameSent (s : State) : Host.Outcome State Fault Refusal :=
  .next (unlessInReset frameSent s)

/-! ### The lane link -/

/-- LANE_FRAME_RECEIVED, R125 to R127. -/
def execLaneFrameReceived (bytes : List Byte) (s : State) : Host.Outcome State Fault Refusal :=
  .next (unlessInReset (laneBytes bytes) s)

/-- LIGHT_FRAME_SENT, R124. -/
def execLightFrameSent (s : State) : Host.Outcome State Fault Refusal :=
  .next (unlessInReset lightSent s)

/-! ### Reset inputs -/

/-- POWER_ON, R179 and R184. -/
def execPowerOn (s : State) : Host.Outcome State Fault Refusal := .next (takeReset .powerOn s)

/-- RESET_PIN, R179 and R184. -/
def execResetPin (s : State) : Host.Outcome State Fault Refusal := .next (takeReset .resetPin s)

/-- The reset ends, R184: the straps give the node number (R161), the stop state and the request state
are those of the inputs (R143, R147), and the first LIGHT frame is begun (R129). -/
def endReset (straps : BitVec 4) (s : State) : State :=
  let s := s.onLink fun l => { l with node := nodeOfStraps straps }
  let s := s.onPause fun c =>
    { c with stopAsserted := s.pins.lineStop, requestAsserted := s.pins.pauseReq }
  beginLight { s with inReset := false }

/-- RESET_END, R184: nothing changes unless the part is held in reset. -/
def execResetEnd (straps : BitVec 4) (s : State) : Host.Outcome State Fault Refusal :=
  .next (if s.inReset then endReset straps s else s)

end Sys2Proof.Machine
end

