-- ==== Sys2Proof/Machine/Dispatch.lean ====
section
/-! DEFINITION. What each command does: one arm per constructor of `Instr`, each one call of its meaning. -/

namespace Sys2Proof.Machine

def exec (i : Instr) (s : State) : Host.Outcome State Fault Refusal :=
  match i with
  | .readIdent q => Sys2Proof.Machine.execReadIdent q s
  | .readStatus q => Sys2Proof.Machine.execReadStatus q s
  | .clearFlags q => Sys2Proof.Machine.execClearFlags q s
  | .readCounters q => Sys2Proof.Machine.execReadCounters q s
  | .readRefusal q => Sys2Proof.Machine.execReadRefusal q s
  | .clearRefusal q => Sys2Proof.Machine.execClearRefusal q s
  | .setParam q => Sys2Proof.Machine.execSetParam q s
  | .readParam q => Sys2Proof.Machine.execReadParam q s
  | .setLock q => Sys2Proof.Machine.execSetLock q s
  | .loadOrder q => Sys2Proof.Machine.execLoadOrder q s
  | .cancelOrder q => Sys2Proof.Machine.execCancelOrder q s
  | .shortClose q => Sys2Proof.Machine.execShortClose q s
  | .readOrder q => Sys2Proof.Machine.execReadOrder q s
  | .readPosition q => Sys2Proof.Machine.execReadPosition q s
  | .loadProduct q => Sys2Proof.Machine.execLoadProduct q s
  | .deleteProduct q => Sys2Proof.Machine.execDeleteProduct q s
  | .readProduct q => Sys2Proof.Machine.execReadProduct q s
  | .stageRange q => Sys2Proof.Machine.execStageRange q s
  | .stageClass q => Sys2Proof.Machine.execStageClass q s
  | .readRange q => Sys2Proof.Machine.execReadRange q s
  | .readClass q => Sys2Proof.Machine.execReadClass q s
  | .advanceWave q => Sys2Proof.Machine.execAdvanceWave q s
  | .armLanes q => Sys2Proof.Machine.execArmLanes q s
  | .disarmLanes q => Sys2Proof.Machine.execDisarmLanes q s
  | .laneEnable q => Sys2Proof.Machine.execLaneEnable q s
  | .laneDisable q => Sys2Proof.Machine.execLaneDisable q s
  | .pause q => Sys2Proof.Machine.execPause q s
  | .resume q => Sys2Proof.Machine.execResume q s
  | .lineClear q => Sys2Proof.Machine.execLineClear q s
  | .injectCapture q => Sys2Proof.Machine.execInjectCapture q s
  | .partReset q => Sys2Proof.Machine.execPartReset q s
  | .partResetTaken => Sys2Proof.Machine.execPartResetTaken s
  | .intakeFrameReceived bytes => Sys2Proof.Machine.execIntakeFrameReceived bytes s
  | .intakeFrameSent => Sys2Proof.Machine.execIntakeFrameSent s
  | .laneFrameReceived bytes => Sys2Proof.Machine.execLaneFrameReceived bytes s
  | .lightFrameSent => Sys2Proof.Machine.execLightFrameSent s
  | .encoderPulse => Sys2Proof.Machine.execEncoderPulse s
  | .eyeInputChange eye high => Sys2Proof.Machine.execEyeInputChange eye high s
  | .captureExpiry => Sys2Proof.Machine.execCaptureExpiry s
  | .fire arm => Sys2Proof.Machine.execFire arm s
  | .dwellEnd arm => Sys2Proof.Machine.execDwellEnd arm s
  | .lastFireLapse arm => Sys2Proof.Machine.execLastFireLapse arm s
  | .missedDivert tag => Sys2Proof.Machine.execMissedDivert tag s
  | .exit tag => Sys2Proof.Machine.execExit tag s
  | .laneJam arm => Sys2Proof.Machine.execLaneJam arm s
  | .lineStopAssert => Sys2Proof.Machine.execLineStopAssert s
  | .lineStopRelease => Sys2Proof.Machine.execLineStopRelease s
  | .pauseReqAssert => Sys2Proof.Machine.execPauseReqAssert s
  | .pauseReqRelease => Sys2Proof.Machine.execPauseReqRelease s
  | .powerOn => Sys2Proof.Machine.execPowerOn s
  | .resetPin => Sys2Proof.Machine.execResetPin s
  | .resetEnd straps => Sys2Proof.Machine.execResetEnd straps s

end Sys2Proof.Machine
end

