-- ==== Sys2Proof/WellFormed.lean ====
section
/-! DEFINITION. Which commands the line can send: a request's payload (its code and its body) fits an
intake frame (R159), and a receive command brings at least one byte. The meanings do not rest on it. -/

namespace Sys2Proof

/-- The request's code and body fit the payload of one intake frame, R159. -/
abbrev Request.wf (q : Request) : Bool := decide (1 + q.body.length ≤ Config.maxPayload)

/-- The well-formedness check of a command. -/
def Instr.wf (i : Instr) : Bool :=
  match i with
  | .readIdent q | .readStatus q | .clearFlags q | .readCounters q | .readRefusal q
  | .clearRefusal q | .setParam q | .readParam q | .setLock q | .loadOrder q | .cancelOrder q
  | .shortClose q | .readOrder q | .readPosition q | .loadProduct q | .deleteProduct q
  | .readProduct q | .stageRange q | .stageClass q | .readRange q | .readClass q
  | .advanceWave q | .armLanes q | .disarmLanes q | .laneEnable q | .laneDisable q | .pause q
  | .resume q | .lineClear q | .injectCapture q | .partReset q => q.wf
  | .intakeFrameReceived bytes | .laneFrameReceived bytes => !bytes.isEmpty
  | .partResetTaken | .intakeFrameSent | .lightFrameSent | .encoderPulse | .eyeInputChange _ _
  | .captureExpiry | .fire _ | .dwellEnd _ | .lastFireLapse _ | .missedDivert _ | .exit _
  | .laneJam _ | .lineStopAssert | .lineStopRelease | .pauseReqAssert | .pauseReqRelease
  | .powerOn | .resetPin | .resetEnd _ => true

end Sys2Proof
end

