-- ==== Sys2Proof/Safety.lean ====
section
/-! DEFINITION. The terms the statements use: when a request is taken and how it is answered, the request
code of a command, what a reset leaves, and the laws of the manual that every step keeps. -/

namespace Sys2Proof

/-- The request code (Section 9.7) and the request of a request command; none for an event. -/
def Instr.request? : Instr → Option (Byte × Request)
  | .readIdent q => some (0x01, q)
  | .readStatus q => some (0x02, q)
  | .clearFlags q => some (0x03, q)
  | .readCounters q => some (0x04, q)
  | .readRefusal q => some (0x05, q)
  | .clearRefusal q => some (0x06, q)
  | .setParam q => some (0x10, q)
  | .readParam q => some (0x11, q)
  | .setLock q => some (0x12, q)
  | .loadOrder q => some (0x20, q)
  | .cancelOrder q => some (0x21, q)
  | .shortClose q => some (0x22, q)
  | .readOrder q => some (0x23, q)
  | .readPosition q => some (0x24, q)
  | .loadProduct q => some (0x30, q)
  | .deleteProduct q => some (0x31, q)
  | .readProduct q => some (0x32, q)
  | .stageRange q => some (0x38, q)
  | .stageClass q => some (0x39, q)
  | .readRange q => some (0x3A, q)
  | .readClass q => some (0x3B, q)
  | .advanceWave q => some (0x40, q)
  | .armLanes q => some (0x50, q)
  | .disarmLanes q => some (0x51, q)
  | .laneEnable q => some (0x52, q)
  | .laneDisable q => some (0x53, q)
  | .pause q => some (0x60, q)
  | .resume q => some (0x61, q)
  | .lineClear q => some (0x62, q)
  | .injectCapture q => some (0x70, q)
  | .partReset q => some (0x7F, q)
  | .partResetTaken | .intakeFrameReceived _ | .intakeFrameSent | .laneFrameReceived _
  | .lightFrameSent | .encoderPulse | .eyeInputChange _ _ | .captureExpiry | .fire _ | .dwellEnd _
  | .lastFireLapse _ | .missedDivert _ | .exit _ | .laneJam _ | .lineStopAssert
  | .lineStopRelease | .pauseReqAssert | .pauseReqRelease | .powerOn | .resetPin
  | .resetEnd _ => none

/-- Whether a command is one of the reset commands of R184. -/
def Instr.isReset : Instr → Bool
  | .powerOn | .resetPin | .partResetTaken => true
  | _ => false

/-- The number a body's bytes give at a place. -/
def Request.num (q : Request) (start width : Nat) : Nat := Machine.fieldAt q.body start width

/-- The number n of lines a LOAD_ORDER body gives, and whether its length fits it (R3 step 1). -/
def Request.loadLengthFits (q : Request) : Bool :=
  decide (13 ≤ q.body.length ∧ q.body.length = 13 + 5 * q.num 12 1)

/-- Whether a request's body has a length its rule allows (R165 and the rules of the requests). -/
def Instr.lengthFits : Instr → Bool
  | .readIdent q | .readStatus q | .readRefusal q | .clearRefusal q | .advanceWave q | .armLanes q
  | .disarmLanes q | .pause q | .resume q | .lineClear q | .partReset q => q.body.length == 0
  | .setLock q | .laneEnable q | .laneDisable q => q.body.length == 1
  | .readParam q | .readPosition q | .readRange q | .readClass q | .injectCapture q =>
    q.body.length == 2
  | .readCounters q | .deleteProduct q | .stageClass q => q.body.length == 3
  | .clearFlags q | .cancelOrder q | .shortClose q | .readOrder q => q.body.length == 4
  | .setParam q => q.body.length == 6
  | .loadProduct q => q.body.length == 10
  | .stageRange q => q.body.length == 14
  | .readProduct q => q.body.length == 2 || q.body.length == 3
  | .loadOrder q => q.loadLengthFits
  | .partResetTaken | .intakeFrameReceived _ | .intakeFrameSent | .laneFrameReceived _
  | .lightFrameSent | .encoderPulse | .eyeInputChange _ _ | .captureExpiry | .fire _ | .dwellEnd _
  | .lastFireLapse _ | .missedDivert _ | .exit _ | .laneJam _ | .lineStopAssert
  | .lineStopRelease | .pauseReqAssert | .pauseReqRelease | .powerOn | .resetPin
  | .resetEnd _ => true

end Sys2Proof

namespace Sys2Proof.Machine

/-! ### Requests -/

/-- The part hears requests: it is not held in reset and no PART_RESET response waits (R171, R184). -/
abbrev Hears (s : State) : Prop := s.inReset = false ∧ s.link.resetWait = .idle

/-- The request reaches its owner: steps 1 and 2 of R165 pass. -/
abbrev Accepts (q : Request) (s : State) : Prop :=
  Hears s ∧ s.link.txQueue.length < 32 ∧ q.source = s.params.controlNode

/-! ### The codes of Sections 9.4 and 9.8, written out -/

/-- The result codes of R166. -/
def codeOfResult : Result → Byte
  | .ok => 0x00
  | .adjusted => 0x01
  | .badField => 0x10
  | .noSpace => 0x11
  | .duplicate => 0x12
  | .notFound => 0x13
  | .wrongState => 0x14
  | .locked => 0x15
  | .notPermitted => 0x16
  | .unknownRequest => 0x17
  | .busy => 0x18
  | .badLength => 0x19
  | .inconsistent => 0x1A

/-- The order state codes. -/
def codeOfOrder : OrderState → Nat
  | .staged => 1
  | .queued => 2
  | .opened => 3
  | .shorting => 4
  | .complete => 5
  | .cancelled => 6

/-- The lane state codes. -/
def codeOfLane : LaneState → Nat
  | .enabled => 0
  | .disabled => 1
  | .jammed _ => 2

/-- The pause state codes. -/
def codeOfPause : PauseState → Nat
  | .running => 0
  | .draining => 1
  | .held => 2

/-- The light codes. -/
def codeOfLight : Light → Nat
  | .off => 0
  | .put => 1
  | .close => 2
  | .clear => 3

/-- The codes of a latched advance. -/
def codeOfLatch : Latch → Nat
  | .notHeld => 0
  | .requested => 1
  | .automatic => 2

/-- The event kind codes, which are the flags' bits (R172). -/
def codeOfEvent : EventKind → Nat
  | .captureOverrun => 0
  | .orphanScan => 1
  | .noRead => 2
  | .doubleItem => 3
  | .unknownItem => 4
  | .weightMismatch => 5
  | .classRefusal => 6
  | .passLimit => 7
  | .beltQueueFull => 8
  | .missedDivert => 9
  | .strayItem => 10
  | .wrongKey => 11
  | .laneJam => 12
  | .laneJamCleared => 13
  | .lineStop => 14
  | .lineRelease => 15
  | .pauseGranted => 16
  | .pauseWithdrawn => 17
  | .orderComplete => 18
  | .orderReleased => 19
  | .waveAdvanced => 20
  | .linkError => 21

/-! ### Answers and frames -/

/-- The state after the response frame of R166 has joined the transmit queue. -/
def withResponse (code : Byte) (q : Request) (r : Result) (body : List Byte) (t : State) : State :=
  { t with
    link :=
      { t.link with
        txQueue := t.link.txQueue ++
          [{ dest := q.source, source := t.link.node, kind := 0x11, tag := q.tag,
             payload := code :: codeOfResult r :: body }]
        sending := true } }

/-- The REQUEST frame that brings a request to a node. -/
def requestFrameTo (node code : Byte) (q : Request) : Frame :=
  { dest := node, source := q.source, kind := 0x10, tag := q.tag, payload := code :: q.body }

/-- The request codes of Section 9.7. -/
def requestCodes : List Nat :=
  [0x01, 0x02, 0x03, 0x04, 0x05, 0x06, 0x10, 0x11, 0x12, 0x20, 0x21, 0x22, 0x23, 0x24, 0x30, 0x31,
    0x32, 0x38, 0x39, 0x3A, 0x3B, 0x40, 0x50, 0x51, 0x52, 0x53, 0x60, 0x61, 0x62, 0x70, 0x7F]

/-- A LINK_ERROR report with a detail and a lane, and its counter. -/
def linkErrorWith (detail lane : Nat) (s : State) : State :=
  count .linkErrors (report { kind := .linkError, detail := detail, lane := lane } s)

/-! ### Line parameters -/

/-- The least and the greatest value of a number's or choice's range (R180), with ARM_DWELL and PAIR_MIN as
they stand; for a mask, of its width. -/
def Param.bounds (p : Params) : Param → Nat × Nat
  | .prescale => (1, 16)
  | .laneDist _ | .rejectDist | .exitDist => (1, 60000)
  | .chuteCap _ => (1, 8)
  | .laneClasses _ => (0, 0xFFFF)
  | .eyeFilter => (0, 15)
  | .lead => (0, 255)
  | .armDwell => (1, 255)
  | .armGap => (p.armDwell, 1023)
  | .confirmWindow => (1, 1023)
  | .pairMin => (0, 4095)
  | .pairMax => (p.pairMin + 1, 8191)
  | .maxLen => (min 1 p.pairMin, p.pairMin)
  | .jamLen => (16, 4095)
  | .controlNode | .tunnelNode => (0x01, 0xFE)
  | .maxPasses => (1, 7)
  | .distDiv => (1, 4096)
  | .autoWave => (0, 255)
  | .reportMask => (0, 0x3FFFFF)
  | .capturePolarity | .lanePolarity | .defaultAllow | .noReadAction | .autoRearm => (0, 1)

/-- The value a write stores (R181 step 5): a mask loses the bits above its width, a number is brought into
its range. -/
def Param.used (p : Params) (v : Nat) (q : Param) : Nat :=
  match q with
  | .laneClasses _ => v % 65536
  | .reportMask => v % 4194304
  | _ => max (q.bounds p).1 (min (q.bounds p).2 v)

/-- Whether writing one parameter may carry another along (R181). -/
def Param.carries : Param → Param → Bool
  | .armDwell, .armGap | .pairMin, .pairMax | .pairMin, .maxLen => true
  | _, _ => false

/-- Whether an identifier and an index name a parameter (R180, R181 step 1). -/
def paramNamed (id index : Nat) : Bool :=
  ([0x02, 0x05, 0x06].contains id && 1 ≤ index && index ≤ 8) ||
    ([0x01, 0x03, 0x04, 0x07, 0x08, 0x09, 0x10, 0x11, 0x12, 0x13, 0x14, 0x15, 0x16, 0x17, 0x18,
      0x19, 0x1A, 0x20, 0x21, 0x22, 0x23, 0x24, 0x25].contains id && index == 0)

/-! ### Orders -/

/-- The field checks of LOAD_ORDER pass (R3 step 2). -/
abbrev orderFieldsGood (q : Request) : Prop :=
  q.num 0 4 ≠ 0 ∧ q.num 4 1 ≤ 15 ∧ 1 ≤ q.num 12 1 ∧ q.num 12 1 ≤ 12 ∧ q.num 8 2 ≠ 0xFFFF ∧
    ∀ i, i < q.num 12 1 → q.num (13 + 5 * i) 2 ≤ 1023 ∧
      (q.num (15 + 5 * i) 2 = 0xFFFF ∨ q.num (15 + 5 * i) 2 ≤ 1023) ∧
      1 ≤ q.num (17 + 5 * i) 1 ∧ q.num (17 + 5 * i) 1 ≤ 15

/-- Whether the substitute of line i is dropped (R4). -/
def subDropped (q : Request) (i : Nat) : Bool :=
  q.num (15 + 5 * i) 2 != 0xFFFF && q.num (15 + 5 * i) 2 == q.num (13 + 5 * i) 2

/-- The order record that an accepted LOAD_ORDER enters in a slot (R4, R5). -/
def orderLoaded (q : Request) (slot : Nat) : Order :=
  { slot := slot, number := q.num 0 4, cls := q.num 4 1, dueWave := q.num 6 2
    dispatchDay := q.num 8 2, budget := max 100 (min 30000 (q.num 10 2)), state := .staged
    position := none, short := false
    lines := (List.range (q.num 12 1)).map fun i =>
      { primary := q.num (13 + 5 * i) 2
        substitute :=
          if q.num (15 + 5 * i) 2 = 0xFFFF ∨ subDropped q i = true then none
          else some (q.num (15 + 5 * i) 2)
        quantity := q.num (17 + 5 * i) 1, reserved := 0, placed := 0 }
    placedWeight := 0, reservedWeight := 0, placedLayer := none, layerCounts := [0, 0, 0, 0] }

/-- The lowest-numbered EMPTY slot (R5). -/
abbrev lowestEmpty (b : OrderBook) (slot : Nat) : Prop :=
  slot < 256 ∧ (∀ o ∈ b.orders, o.slot ≠ slot) ∧ ∀ k, k < slot → ∃ o ∈ b.orders, o.slot = k

/-! ### The belt -/

/-- No step stands due at the present P: no capture is past PAIR_MAX, no fire, dwell end, deadline or exit
is at P, and no lapse and no jam is marked. -/
structure NothingDue (s : State) : Prop where
  expiry : ∀ c ∈ s.capture.list, s.age c ≤ s.params.pairMax
  fire : ∀ e ∈ s.divert.queue, e.state ≠ .scheduled s.p
  dwell : ∀ a, (s.divert.arms.get a).output ≠ some s.p
  lapse : ∀ a, (s.divert.arms.get a).lapseDue = false
  miss : ∀ e ∈ s.divert.queue, ∀ f, e.state ≠ .fired f s.p
  exit : ∀ e ∈ s.divert.queue, ∀ r, e.state = .outbound r → e.exitAt ≠ s.p
  jam : ∀ a, (s.divert.eyes.get a).jamDue = false

/-! ### What a reset leaves -/

/-- The state of a part held in reset: what the reset leaves of the state `s` it was taken in, with the
flag word that its kind gives. Every value but the flags, the node number, the inputs, the queue of
commands and the two states read from the inputs is the manual's own (R24, R27, R33, R34, R38, R42, R48,
R61, R86, R89, R90, R100, R103, R107, R129, R142, R147, R150, R159, R168, R169, R175, R180). -/
def heldState (flags : BitVec 32) (s : State) : State :=
  { pending := s.pending
    inReset := true
    pins := s.pins
    link :=
      { node := s.link.node, rx := .hunting, txQueue := [], sending := false, seq := 0
        resetWait := .idle }
    belt := { phase := 0, p := 0, eyes := PerEye.all { blocked := false, count := 0 } }
    capture := { list := [], nextTag := 0 }
    catalogue := []
    ranges :=
      { ranges := List.replicate 24
          { valid := false, start := 0, stop := 15, check := 0, primary := 0, substitute := 0 }
        classes := List.replicate 16 { shelfDays := 0, layerRule := true }
        record := none, count := 0, more := false }
    book := { orders := [], freeLines := 2048, queued := [] }
    recirc := []
    divert :=
      { queue := []
        arms := PerArm.all { lastFire := none, output := none, lapseDue := false }
        laneStates := PerLane.all .enabled
        rejectJammed := false
        eyes := PerArm.all { blockStart := none, jamDue := false }
        armsLive := false }
    wall :=
      { chutes := PerLane.all [], marks := List.range 128, pointer := 127, tx := none
        rx := .hunting }
    wave :=
      { counter := 0
        ranges := List.replicate 24
          { valid := false, start := 0, stop := 15, check := 0, primary := 0, substitute := 0 }
        classes := List.replicate 16 { shelfDays := 0, layerRule := true }
        releases := 0, latch := .notHeld }
    pause :=
      { stopAsserted := s.pause.stopAsserted, requestAsserted := s.pause.requestAsserted
        controlPause := true, state := .held, inductHold := true, pauseAck := true }
    status := { flags := flags, counters := List.replicate 22 0 }
    params :=
      { prescale := 4, laneDist := ⟨1500, 3000, 4500, 6000, 7500, 9000, 10500, 12000⟩
        rejectDist := 13500, exitDist := 15000, chuteCap := PerLane.all 6
        laneClasses := PerLane.all 0xFFFF, capturePolarity := .blockedHigh
        lanePolarity := .blockedHigh, eyeFilter := 2, lead := 24, armDwell := 20, armGap := 40
        confirmWindow := 120, pairMin := 200, pairMax := 900, maxLen := 160, jamLen := 400
        defaultAllow := .allow, controlNode := 0x01, tunnelNode := 0x10
        noReadAction := .recirculate, maxPasses := 3, distDiv := 128, autoWave := 0
        autoRearm := false, reportMask := 0x3FFFFF, lockLevel := 0 } }

/-- The input levels after a command: only the commands of the eyes, LINE_STOP and PAUSE_REQ set one. -/
def inputsAfter : Instr → Pins → Pins
  | .eyeInputChange e high, p => { p with eyes := p.eyes.set e high }
  | .lineStopAssert, p => { p with lineStop := true }
  | .lineStopRelease, p => { p with lineStop := false }
  | .pauseReqAssert, p => { p with pauseReq := true }
  | .pauseReqRelease, p => { p with pauseReq := false }
  | _, p => p

/-! ### Laws every step keeps -/

/-- The transmit queue (R168): at most 32 frames, and the transmitter sends exactly while it is not empty;
where a PART_RESET stands (R171), and the queue empty during a reset. -/
structure LinkLaw (s : State) : Prop where
  size : s.link.txQueue.length ≤ 32
  sends : s.link.sending = true ↔ s.link.txQueue ≠ []
  waits : s.link.resetWait = .waiting → s.link.txQueue ≠ []
  sent : s.link.resetWait = .sent → s.link.txQueue = []
  held : s.inReset = true → s.link.txQueue = [] ∧ s.link.resetWait = .idle

/-- The flag word's bits that hold no flag are 0 (R172), and there are 22 counters, none above its
greatest value (R175). -/
structure StatusLaw (s : State) : Prop where
  flags : s.status.flags &&& 0xF8C00000 = 0
  number : s.status.counters.length = 22
  most : ∀ v ∈ s.status.counters, v ≤ 4294967295

/-- The law of the pause outputs (R150), that the part is RUNNING exactly while no pause is wanted (R147,
R151, R153), and that the stop and request states are those of the inputs (R143, R147). -/
structure PauseLaw (s : State) : Prop where
  ack : s.pause.pauseAck = true ↔ s.pause.state = .held
  hold : s.pause.inductHold = true ↔ s.pause.state ≠ .running
  wanted : s.pause.state = .running ↔
    (s.pause.requestAsserted = false ∧ s.pause.controlPause = false)
  stop : s.inReset = false → s.pause.stopAsserted = s.pins.lineStop
  request : s.inReset = false → s.pause.requestAsserted = s.pins.pauseReq
  reset : s.inReset = true → s.pause.controlPause = true

/-- The product table: at most 4096 records, in ascending stock-code order with no stock code twice, each
field in its range (R26). -/
structure CatalogueLaw (s : State) : Prop where
  size : s.catalogue.length ≤ 4096
  sorted : s.catalogue.Pairwise fun a b => a.code < b.code
  fields : ∀ r ∈ s.catalogue, 1 ≤ r.code ∧ r.code ≤ 16777214 ∧ r.group ≤ 1023 ∧ r.layer ≤ 3 ∧
    1 ≤ r.nominal ∧ r.nominal ≤ 65534 ∧ r.tolerance ≤ 50

/-- Every parameter lies in its range (R180), with the dependants of R181, the lock level is 0, 1 or 2
(R183), and the prescale phase lies below PRESCALE (R42). MAX_LEN may be 0 (notes/assumptions/16.md). -/
structure ParamsLaw (s : State) : Prop where
  prescale : 1 ≤ s.params.prescale ∧ s.params.prescale ≤ 16
  phase : s.belt.phase < s.params.prescale
  laneDist : ∀ n, 1 ≤ s.params.laneDist.get n ∧ s.params.laneDist.get n ≤ 60000
  rejectDist : 1 ≤ s.params.rejectDist ∧ s.params.rejectDist ≤ 60000
  exitDist : 1 ≤ s.params.exitDist ∧ s.params.exitDist ≤ 60000
  chuteCap : ∀ n, 1 ≤ s.params.chuteCap.get n ∧ s.params.chuteCap.get n ≤ 8
  eyeFilter : s.params.eyeFilter ≤ 15
  lead : s.params.lead ≤ 255
  armDwell : 1 ≤ s.params.armDwell ∧ s.params.armDwell ≤ 255 ∧
    s.params.armDwell ≤ s.params.armGap
  armGap : s.params.armGap ≤ 1023
  confirmWindow : 1 ≤ s.params.confirmWindow ∧ s.params.confirmWindow ≤ 1023
  pairMin : s.params.pairMin ≤ 4095
  pairMax : s.params.pairMin < s.params.pairMax ∧ s.params.pairMax ≤ 8191
  maxLen : s.params.maxLen ≤ s.params.pairMin
  jamLen : 16 ≤ s.params.jamLen ∧ s.params.jamLen ≤ 4095
  nodes : 0x01 ≤ s.params.controlNode.toNat ∧ s.params.controlNode.toNat ≤ 0xFE ∧
    0x01 ≤ s.params.tunnelNode.toNat ∧ s.params.tunnelNode.toNat ≤ 0xFE
  maxPasses : 1 ≤ s.params.maxPasses ∧ s.params.maxPasses ≤ 7
  distDiv : 1 ≤ s.params.distDiv ∧ s.params.distDiv ≤ 4096
  autoWave : s.params.autoWave ≤ 255
  lockLevel : s.params.lockLevel ≤ 2

/-- While ARMS_LIVE is clear no arm output is active and no entry is SCHEDULED (R92, R93, R109); while it
is set LINE_STOP is released and the geometry is consistent (R107, R144); a reset clears it (R107). -/
structure ArmsLaw (s : State) : Prop where
  outputs : s.divert.armsLive = false → ∀ a, (s.divert.arms.get a).output = none
  schedules : s.divert.armsLive = false → ∀ e ∈ s.divert.queue, e.isScheduled = false
  stop : s.divert.armsLive = true → s.pause.stopAsserted = false
  geometry : s.divert.armsLive = true → geometryConsistent s.params = true
  held : s.inReset = true → s.divert.armsLive = false

/-- The schedule of every arm (R90, R91): no fire position appears twice, any two lie at least ARM_GAP apart the
shorter way round, and each lies at least ARM_GAP ahead of the arm's last fire position while one is
present. -/
structure ScheduleLaw (s : State) : Prop where
  once : ∀ a, (s.firePositions a).Nodup
  apart : ∀ a, (s.firePositions a).Pairwise fun f g =>
    s.params.armGap ≤ (g - f).toNat ∧ s.params.armGap ≤ (f - g).toNat
  after : ∀ a, ∀ f ∈ s.firePositions a, ∀ l, (s.divert.arms.get a).lastFire = some l →
    s.params.armGap ≤ (f - l).toNat

/-- A chute eye's block start is present exactly while its filtered level is blocked (R103); a JAMMED lane
or reject arm has its eye blocked (R94, R106); an eye whose raw level equals its filtered level has pulse
count 0 (R46). -/
structure EyesLaw (s : State) : Prop where
  start : ∀ a, (s.divert.eyes.get a).blockStart.isSome = (s.belt.eyes.get (.chute a)).blocked
  jammed : ∀ a, s.jammed a = true → (s.belt.eyes.get (.chute a)).blocked = true
  count : ∀ e, s.rawLevel e = (s.belt.eyes.get e).blocked → (s.belt.eyes.get e).count = 0
  held : s.inReset = true → ∀ e, (s.belt.eyes.get e).count = 0

/-- The Order Book: slots 0..255 and order numbers each held once (R1), the pool's 2048 lines all free or
in an order (R2), the queued list (R6), and the binding (R8). -/
structure BookLaw (s : State) : Prop where
  slots : s.book.orders.Pairwise fun a b => a.slot < b.slot
  inTable : ∀ o ∈ s.book.orders, o.slot < 256
  numbers : s.book.orders.Pairwise fun a b => a.number ≠ b.number
  pool : s.book.freeLines + (s.book.orders.map fun o => o.lines.length).sum = 2048
  queuedOnce : s.book.queued.Nodup
  queuedAre : ∀ i, i ∈ s.book.queued ↔ ∃ o ∈ s.book.orders, o.slot = i ∧ o.state = .queued
  byDueWave : s.book.queued.Pairwise fun i j => s.book.dueWaveOf i ≤ s.book.dueWaveOf j
  bound : ∀ o ∈ s.book.orders, o.position = none ↔ (o.state = .staged ∨ o.state = .queued)
  positions : ∀ o ∈ s.book.orders, ∀ n p, o.position = some (n, p) → 1 ≤ p ∧ p ≤ 15
  once : s.book.orders.Pairwise fun a b => a.position = none ∨ a.position ≠ b.position

/-- A reservation an item holds: the line, the weight and the layer it names (R15). -/
structure Claim where
  line : Nat
  grams : Nat
  layer : Nat
  deriving DecidableEq, Repr

/-- The claim of a belt-queue entry on the order in a slot: PLACE, and SCHEDULED or FIRED. -/
def Entry.claim (slot : Nat) (e : Entry) : Option Claim :=
  match e.dest with
  | .place _ _ k line _ =>
    if k = slot ∧ (e.isScheduled || e.isFired) then
      some { line := line, grams := (e.weight.map (·.grams)).getD 0, layer := e.layer.getD 0 }
    else none
  | _ => none

/-- The claim of a PUT chute entry on the order in a slot. -/
def ChuteEntry.claim (slot : Nat) (e : ChuteEntry) : Option Claim :=
  match e.kind with
  | .put _ k line =>
    if k = slot then
      some { line := line, grams := (e.weight.map (·.grams)).getD 0, layer := e.layer.getD 0 }
    else none
  | _ => none

/-- The claims on the order in a slot: those of the belt queue and those of the chute lists. -/
def claims (s : State) (slot : Nat) : List Claim :=
  s.divert.queue.filterMap (Entry.claim slot) ++ s.chuteEntries.filterMap (ChuteEntry.claim slot)

/-- The reservation accounts agree with the items that hold them (R15), and keep within the quantities and
budgets (R10); only an OPEN or SHORTING order has claims on it (R12, R15). -/
structure AccountsLaw (s : State) : Prop where
  byLine : ∀ o ∈ s.book.orders, ∀ i, ((o.lines[i]?).map (·.reserved)).getD 0 =
    ((claims s o.slot).filter fun c => c.line == i).length
  byLayer : ∀ o ∈ s.book.orders, o.layerCounts.length = 4 ∧ ∀ l, o.layerCounts.getD l 0 =
    ((claims s o.slot).filter fun c => c.layer == l).length
  byWeight : ∀ o ∈ s.book.orders, o.reservedWeight = ((claims s o.slot).map (·.grams)).sum
  quantities : ∀ o ∈ s.book.orders, ∀ l ∈ o.lines, l.reserved + l.placed ≤ l.quantity
  budgets : ∀ o ∈ s.book.orders, o.reservedWeight + o.placedWeight ≤ o.budget
  states : ∀ o ∈ s.book.orders, claims s o.slot ≠ [] → o.state = .opened ∨ o.state = .shorting
  known : ∀ i, claims s i ≠ [] → ∃ o ∈ s.book.orders, o.slot = i

/-- A lane's committed count is at most its CHUTE_CAP (R99), and a chute list holds at most 16 entries
(R112). -/
structure ChuteLaw (s : State) : Prop where
  load : ∀ n, s.committed n ≤ s.params.chuteCap.get n
  size : ∀ n, (s.wall.chutes.get n).length ≤ 16

/-- The capture list holds at most 8 captures, the oldest first and none older than PAIR_MAX + 1 (R49,
R55), and the belt queue at most 48 entries (R89). -/
structure CaptureLaw (s : State) : Prop where
  size : s.capture.list.length ≤ 8
  order : s.capture.list.Pairwise fun a b => s.age b ≤ s.age a
  oldest : ∀ c ∈ s.capture.list, s.age c ≤ s.params.pairMax + 1
  queue : s.divert.queue.length ≤ 48

/-- The recirculation table: at most 64 records, no carrier twice, none 0, passes 1..7 (R86). -/
structure RecircLaw (s : State) : Prop where
  size : s.recirc.length ≤ 64
  once : s.recirc.Pairwise fun a b => a.carrier ≠ b.carrier
  fields : ∀ r ∈ s.recirc, r.carrier ≠ 0 ∧ 1 ≤ r.passes ∧ r.passes ≤ 7

/-- Every pending mark is of a panel position, and the lane link's transmitter is not idle while a mark is
set (R123), but for a part held in reset (R129). -/
structure WallLaw (s : State) : Prop where
  marks : ∀ i ∈ s.wall.marks, i < 128
  sends : s.inReset = false → s.wall.tx = none → s.wall.marks = []

end Sys2Proof.Machine
end

