-- ==== Sys2Proof/Certificates/Slice0/Obligations.lean ====
section
/-! DEFINITION. The statements for the provers. Every command answers a next state; where a statement gives
that state whole, its frame is the state itself: what is not named is unchanged. -/

open Sys2Proof Sys2Proof.Machine

/-! ### The queue of commands -/

/-- 00_scope.md 7.9 and 95_what_each_step_holds.md: a step is one command taken whole. The queue, and that an
empty one idles, are the model's (notes/assumptions/3.md). -/
def Obligations.StepTakesFrontCommand : Prop :=
  (∀ (c : Instr) (rest : List Instr) (s : State),
    step { s with pending := c :: rest } = exec c { s with pending := rest }) ∧
  ∀ s : State, s.pending = [] → step s = .next s

/-- Every command completes in every state, and none touches the queue of commands. -/
def Obligations.EveryCommandCompletes : Prop :=
  ∀ (c : Instr) (s : State), ∃ t, exec c s = .next t ∧ t.pending = s.pending

/-! ### Resets -/

/-- R179, R184 and the reset rule of each chapter: what each reset kind leaves while the part is held. That
PART_RESET_TAKEN changes nothing before the response has been sent, and that it begins a hold in which the
node number, the stop state and the request state stand, are the model's (notes/assumptions/4.md,
notes/assumptions/9.md). -/
def Obligations.ResetKindsGiveResetState : Prop :=
  ∀ s : State,
    exec .powerOn s = .next (heldState 0x01000000 s) ∧
    exec .resetPin s = .next (heldState (s.status.flags &&& 0x07000000 ||| 0x02000000) s) ∧
    (s.link.resetWait = .sent → exec .partResetTaken s =
      .next (heldState (s.status.flags &&& 0x07000000 ||| 0x04000000) s)) ∧
    (s.link.resetWait ≠ .sent → exec .partResetTaken s = .next s)

/-- R184, R161, R143, R147, R129: what the part reads and begins as a reset ends. That RESET_END changes
nothing outside a reset, and the inputs State.reset starts from, are the model's (notes/assumptions/4.md,
notes/assumptions/8.md). -/
def Obligations.ResetEndStartsPart : Prop :=
  (∀ (straps : BitVec 4) (s : State), s.inReset = true → s.wall = (heldState 0 s).wall →
    exec (.resetEnd straps) s = .next
      { s with
        inReset := false
        link := { s.link with node := 0x40 + straps.zeroExtend 8 }
        pause :=
          { s.pause with
            stopAsserted := s.pins.lineStop, requestAsserted := s.pins.pauseReq }
        wall :=
          { s.wall with
            marks := (List.range 128).tail, pointer := 0
            tx := some { lane := .l1, position := 0, value := .off } } }) ∧
  (∀ (straps : BitVec 4) (s : State), s.inReset = false → exec (.resetEnd straps) s = .next s) ∧
  ∀ s : State, s.pins = Pins.released → ∃ t, exec .powerOn s = .next t ∧
    exec (.resetEnd 0) t = .next { State.reset with pending := s.pending }

/-- R184: while the part is held in reset it takes no event. That the input levels still follow their
commands is the model's (notes/assumptions/10.md). -/
def Obligations.HeldPartTakesNoEvent : Prop :=
  ∀ (c : Instr) (s : State), s.inReset = true → c.isReset = false →
    (∀ straps, c ≠ .resetEnd straps) → exec c s = .next { s with pins := inputsAfter c s.pins }

/-! ### The intake link -/

/-- R159 to R166: the bytes of a REQUEST frame addressed to the part, taken by a hunting receiver, are the
request command itself. The request rows are this frame at its sorting (notes/assumptions/1.md). -/
def Obligations.RequestFrameIsItsCommand : Prop :=
  ∀ (i : Instr) (code : Byte) (q : Request) (s : State), i.request? = some (code, q) →
    i.wf = true → s.link.rx = .hunting →
    exec (.intakeFrameReceived (requestFrameTo s.link.node code q).bytes) s = exec i s

/-- R165, R166, R170, R171: what is common to every request. -/
def Obligations.RequestsPassTheCommonChecks : Prop :=
  ∀ (i : Instr) (code : Byte) (q : Request) (s : State), i.request? = some (code, q) →
    (¬ Hears s → exec i s = .next s) ∧
    (Hears s → 32 ≤ s.link.txQueue.length → exec i s = .next
      { s with
        status :=
          { flags := s.status.flags ||| 0x00200000
            counters := s.status.counters.modify 20 bump }
        link :=
          { s.link with
            seq := if s.params.reportMask.getLsbD 21 then s.link.seq + 1 else s.link.seq } }) ∧
    (Hears s → s.link.txQueue.length < 32 → q.source ≠ s.params.controlNode →
      exec i s = .next (withResponse code q .notPermitted [] s)) ∧
    (Accepts q s → i.lengthFits = false → exec i s = .next (withResponse code q .badLength [] s))

/-- R125, R126, R159, R160: damaged frames of both links, and bytes outside frames. That the receiver hunts at
the sixth header byte of a length above 240 is the model's reading (notes/assumptions/24.md). -/
def Obligations.DamagedFramesAreDropped : Prop :=
  (∀ (f : Frame) (hi lo : Byte) (s : State), Hears s → s.link.rx = .hunting →
    f.payload.length ≤ 240 → [hi, lo] ≠ crcBytes f.covered →
    exec (.intakeFrameReceived (0xA5 :: (f.covered ++ [hi, lo]))) s =
      .next (linkErrorWith 0x01 0 s)) ∧
  (∀ (dest source kind tag hi lo : Byte) (s : State), Hears s → s.link.rx = .hunting →
    240 < 256 * hi.toNat + lo.toNat →
    exec (.intakeFrameReceived [0xA5, dest, source, kind, tag, hi, lo]) s =
      .next (linkErrorWith 0x02 0 s)) ∧
  (∀ (bytes : List Byte) (s : State), s.link.rx = .hunting → (∀ b ∈ bytes, b ≠ 0xA5) →
    exec (.intakeFrameReceived bytes) s = .next s) ∧
  (∀ (lane kind position value hi lo : Byte) (s : State), s.inReset = false →
    s.wall.rx = .hunting → [hi, lo] ≠ crcBytes [lane, kind, position, value] →
    exec (.laneFrameReceived [0xA6, lane, kind, position, value, hi, lo]) s =
      .next (linkErrorWith 0x80 0 s)) ∧
  (∀ (lane kind position value : Byte) (s : State), s.inReset = false → s.wall.rx = .hunting →
    (¬ (1 ≤ lane.toNat ∧ lane.toNat ≤ 8) ∨ kind ≠ 0x02 ∨
      (15 < position.toNat ∧ position ≠ 0xFF) ∨ value ≠ 0) →
    exec (.laneFrameReceived ([0xA6, lane, kind, position, value] ++
        crcBytes [lane, kind, position, value])) s =
      .next (linkErrorWith 0x81 (if 1 ≤ lane.toNat ∧ lane.toNat ≤ 8 then lane.toNat else 0) s)) ∧
  ∀ (bytes : List Byte) (s : State), s.wall.rx = .hunting → (∀ b ∈ bytes, b ≠ 0xA6) →
    exec (.laneFrameReceived bytes) s = .next s

/-- R161, R163, R164, R165, R170: what becomes of a frame whose check is good, by its destination, kind and
source; of a REQUEST, whatever its payload, with the queue full or from another node. -/
def Obligations.GoodFramesAreSorted : Prop :=
  ∀ (f : Frame) (s : State), Hears s → s.link.rx = .hunting → f.payload.length ≤ 240 →
    (f.dest ≠ s.link.node → exec (.intakeFrameReceived f.bytes) s = .next s) ∧
    (f.dest = s.link.node → f.kind = 0x01 → f.source ≠ s.params.tunnelNode →
      exec (.intakeFrameReceived f.bytes) s = .next (count .foreignFrames s)) ∧
    (f.dest = s.link.node → f.kind = 0x01 → f.source = s.params.tunnelNode →
      f.payload.length ≠ 10 →
      exec (.intakeFrameReceived f.bytes) s = .next (linkErrorWith 0x04 0 s)) ∧
    (f.dest = s.link.node → f.kind = 0x01 → f.source = s.params.tunnelNode →
      f.payload.length = 10 →
      exec (.intakeFrameReceived f.bytes) s = .next (scanArrival
        { stock := fieldAt f.payload 0 3, carrier := fieldAt f.payload 3 2
          weight := fieldAt f.payload 5 2, bestBefore := fieldAt f.payload 7 2
          status := fieldAt f.payload 9 1 } s)) ∧
    (f.dest = s.link.node → f.kind = 0x11 ∨ f.kind = 0x20 →
      exec (.intakeFrameReceived f.bytes) s = .next (count .foreignFrames s)) ∧
    (f.dest = s.link.node → f.kind ≠ 0x01 → f.kind ≠ 0x10 → f.kind ≠ 0x11 → f.kind ≠ 0x20 →
      exec (.intakeFrameReceived f.bytes) s = .next (linkErrorWith 0x03 0 s)) ∧
    (f.dest = s.link.node → f.kind = 0x10 → 32 ≤ s.link.txQueue.length →
      exec (.intakeFrameReceived f.bytes) s = .next (count .linkErrors (report
        { kind := .linkError, detail := 0x05, position := some (f.payload.headD 0x00).toNat }
        s))) ∧
    (f.dest = s.link.node → f.kind = 0x10 → s.link.txQueue.length < 32 →
      f.source ≠ s.params.controlNode → exec (.intakeFrameReceived f.bytes) s = .next
        (withResponse (f.payload.headD 0x00)
          { source := f.source, tag := f.tag, body := f.payload.drop 1 } .notPermitted [] s)) ∧
    (f.dest = s.link.node → f.kind = 0x10 → f.payload = [] → f.source = s.params.controlNode →
      s.link.txQueue.length < 32 → exec (.intakeFrameReceived f.bytes) s = .next
        (withResponse 0x00 { source := f.source, tag := f.tag, body := [] } .badLength [] s)) ∧
    ∀ code body, f.dest = s.link.node → f.kind = 0x10 → f.payload = code :: body →
      code.toNat ∉ requestCodes → f.source = s.params.controlNode →
      s.link.txQueue.length < 32 → exec (.intakeFrameReceived f.bytes) s = .next
        (withResponse code { source := f.source, tag := f.tag, body := body }
          .unknownRequest [] s)

/-- R168, R171: the frame sent leaves the queue; a PART_RESET runs to its reset behind its response. That
INTAKE_FRAME_SENT while idle changes nothing, the three phases of `resetWait`, and what the held part keeps
are the model's (notes/assumptions/4.md, notes/assumptions/12.md, notes/assumptions/9.md). -/
def Obligations.FrameSentLeavesQueue : Prop :=
  (∀ (f : Frame) (rest : List Frame) (s : State), s.inReset = false →
    s.link.txQueue = f :: rest → s.link.sending = true → exec .intakeFrameSent s = .next
      { s with
        link :=
          { s.link with
            txQueue := rest
            sending := !rest.isEmpty
            resetWait :=
              if s.link.resetWait = .waiting ∧ rest = [] then .sent else s.link.resetWait } }) ∧
  (∀ s : State, s.link.sending = false → exec .intakeFrameSent s = .next s) ∧
  ∀ (q : Request) (s : State), Accepts q s → q.body = [] →
    exec (.partReset q) s = .next
      (withResponse 0x7F q .ok [] { s with link := { s.link with resetWait := .waiting } }) ∧
    (s.link.txQueue = [] → ∃ t u, exec (.partReset q) s = .next t ∧
      exec .intakeFrameSent t = .next u ∧ exec .partResetTaken u =
        .next (heldState (s.status.flags &&& 0x07000000 ||| 0x04000000) s))

/-! ### The Status Unit -/

/-- R169, R173 and Section 9.8: a report sets its flag, and offers an event frame if REPORT_MASK has its bit;
R168, R171: the frame is queued or lost. That P is the position counter of every report is the model's where
the rule does not say so (notes/assumptions/13.md). -/
def Obligations.ReportSetsFlagAndOffersFrame : Prop :=
  ∀ (r : Report) (s : State),
    let flagged : State :=
      { s with status := { s.status with flags := s.status.flags ||| 1#32 <<< codeOfEvent r.kind } }
    let frame : Frame :=
      { dest := s.params.controlNode, source := s.link.node, kind := 0x20, tag := s.link.seq
        payload :=
          toBytes 1 (codeOfEvent r.kind) ++ toBytes 1 r.detail ++ toBytes 2 s.wave.counter ++
            toBytes 2 s.belt.p.toNat ++ toBytes 1 r.lane ++ toBytes 1 (r.position.getD 0xFF) ++
            toBytes 4 r.order ++ toBytes 3 r.stock ++ toBytes 2 r.carrier }
    (s.params.reportMask.getLsbD (codeOfEvent r.kind) = false → report r s = flagged) ∧
    (s.params.reportMask.getLsbD (codeOfEvent r.kind) = true → s.link.txQueue.length ≤ 23 →
      s.link.resetWait = .idle → report r s =
        { flagged with
          link :=
            { s.link with
              seq := s.link.seq + 1, txQueue := s.link.txQueue ++ [frame], sending := true } }) ∧
    (s.params.reportMask.getLsbD (codeOfEvent r.kind) = true →
      (23 < s.link.txQueue.length ∨ s.link.resetWait ≠ .idle) → report r s =
        { flagged with link := { s.link with seq := s.link.seq + 1 } })

/-- R175: the counters have the identifiers 0..21, and an increase raises one of them unless it stands at
its greatest value. -/
def Obligations.CountRaisesOneCounter : Prop :=
  (∀ c d : Counter, c.id < 22 ∧ (c.id = d.id → c = d)) ∧
  ([Counter.captures, .overruns, .scansPaired, .orphanScans, .noReads, .doubles, .unknownItems,
    .weightMismatches, .weightEstimated, .placements, .rejectsDecided, .recirculations, .fires,
    .misses, .strays, .puts, .wrongKeys, .ordersCompleted, .ordersCancelled, .beltQueueFulls,
    .linkErrors, .foreignFrames].map Counter.id = List.range 22) ∧
  ∀ (c : Counter) (s : State), ∃ cs,
    count c s = { s with status := { s.status with counters := cs } } ∧
    ∀ i, cs[i]? = if i = c.id then (s.status.counters[i]?).map fun v =>
      (if v < 4294967295 then v + 1 else v) else s.status.counters[i]?

/-- R177, R178, R40 and Section 9.8: READ_IDENT, READ_STATUS and READ_REFUSAL answer what stands and change
nothing else. -/
def Obligations.StatusReadsAnswerWhatStands : Prop :=
  ∀ (q : Request) (s : State), Accepts q s → q.body = [] →
    exec (.readIdent q) s = .next (withResponse 0x01 q .ok
      ([0x0C, 0x08, 0x01, s.link.node, 0x01, 0x00, 0x08, 0x00, 0x10, 0x00, 0, 24, 0, 16, 0, 8, 0, 15,
        0, 8, 0, 48, 0, 16, 0, 64, 0, 32, 0, 22, 0, 22]) s) ∧
    exec (.readStatus q) s = .next (withResponse 0x02 q .ok
      (toBytes 1 (codeOfPause s.pause.state) ++ toBytes 1 (flagNat s.pause.controlPause) ++
        toBytes 1 (flagNat s.pause.requestAsserted) ++ toBytes 1 (flagNat s.pause.stopAsserted) ++
        toBytes 1 (flagNat s.divert.armsLive) ++ toBytes 1 s.params.lockLevel ++
        toBytes 2 s.wave.counter ++ toBytes 2 s.wave.releases ++ toBytes 1 (codeOfLatch s.wave.latch) ++
        [Lane.l1, .l2, .l3, .l4, .l5, .l6, .l7, .l8].flatMap (fun n =>
          match s.divert.laneStates.get n with
          | .enabled => ([0x00, 0xFF] : List Byte)
          | .disabled => [0x01, 0xFF]
          | .jammed .enabled => [0x02, 0x00]
          | .jammed .disabled => [0x02, 0x01]) ++
        [if s.divert.rejectJammed then (0x02 : Byte) else 0x00] ++ toBytes 4 s.status.flags.toNat ++
        [s.link.seq]) s) ∧
    exec (.readRefusal q) s = .next (withResponse 0x05 q .ok
      ((match s.ranges.record with
        | none => ([0, 0, 0, 0, 0, 0, 0, 0, 0, 0, 0, 0, 0] : List Byte)
        | some r => [0x01] ++ toBytes 3 r.stock ++ toBytes 1 r.cls ++
            [match r.kind with | .primary => (0x00 : Byte) | .substitute => 0x01] ++
            (match r.cause with | .range i => toBytes 1 i | .default => [0xFF]) ++
            toBytes 2 r.wave ++ toBytes 4 r.order) ++
        toBytes 2 s.ranges.count ++ toBytes 1 (flagNat s.ranges.more)) s)

/-- R174: CLEAR_FLAGS. R176: READ_COUNTERS, which with option 1 sets the counters read to 0. -/
def Obligations.FlagsAndCountersAreReadAndCleared : Prop :=
  ∀ (q : Request) (s : State), Accepts q s →
    (q.body.length = 4 → ∃ after : BitVec 32,
      (∀ k, after.getLsbD k = (s.status.flags.getLsbD k &&
        !((k < 22 || (24 ≤ k && k ≤ 26)) && (BitVec.ofNat 32 (q.num 0 4)).getLsbD k))) ∧
      exec (.clearFlags q) s = .next (withResponse 0x03 q .ok
        (toBytes 4 s.status.flags.toNat ++ toBytes 4 after.toNat)
        { s with status := { s.status with flags := after } })) ∧
    (q.body.length = 3 →
      (21 < q.num 0 1 ∨ q.num 1 1 = 0 ∨ 22 < q.num 0 1 + q.num 1 1 ∨ 1 < q.num 2 1 →
        exec (.readCounters q) s = .next (withResponse 0x04 q .badField [] s)) ∧
      (q.num 0 1 ≤ 21 → q.num 1 1 ≠ 0 → q.num 0 1 + q.num 1 1 ≤ 22 → q.num 2 1 ≤ 1 →
        ∃ cs : List Nat,
          (∀ i, cs[i]? =
            if q.num 2 1 = 1 ∧ q.num 0 1 ≤ i ∧ i < q.num 0 1 + q.num 1 1 then
              (s.status.counters[i]?).map fun _ => 0
            else s.status.counters[i]?) ∧
          exec (.readCounters q) s = .next (withResponse 0x04 q .ok
            (toBytes 1 (q.num 0 1) ++ toBytes 1 (q.num 1 1) ++
              ((s.status.counters.drop (q.num 0 1)).take (q.num 1 1)).flatMap (toBytes 4))
            { s with status := { s.status with counters := cs } })))

/-! ### The Parameter Store -/

/-- R181, R180: a SET_PARAM that passes the six checks stores the value used, and carries dependants along;
every other parameter keeps its value. What blocks do at the write itself follows their own rules: PRESCALE
R43, the polarities R45 and R46, EYE_FILTER R48, PAIR_MAX R55, LANE_CLASSES R7; for a parameter that no
block acts on, nothing else changes. That a mask cut to its width counts as clamped, that MAX_LEN stays 0 when
PAIR_MIN rises from 0, the order of the edges of several eyes, and the edges at a write of EYE_FILTER 0 are
the model's readings (notes/assumptions/15.md, 16.md, 7.md, 23.md). -/
def Obligations.SetParamStoresValueUsed : Prop :=
  ∀ (q : Request) (s : State) (p : Param), Accepts q s → ParamsLaw s → q.body.length = 6 →
    paramOf (q.num 0 1) (q.num 1 1) = some p → (p.isChoice = true → q.num 2 4 ≤ 1) →
    lockForbids s.params.lockLevel p.lockClass = false →
    (p.lockClass = .free ∨ s.divert.armsLive = false) →
    belowLoad s (p.used s.params (q.num 2 4)) p = false →
    let settle (t : State) (e : Eye) : State :=
      if t.rawLevel e = (t.belt.eyes.get e).blocked then
        { t with
          belt :=
            { t.belt with
              eyes := t.belt.eyes.set e { t.belt.eyes.get e with count := 0 } } }
      else if t.params.eyeFilter = 0 then
        takeEdge e (t.rawLevel e)
          { t with
            belt :=
              { t.belt with eyes := t.belt.eyes.set e { blocked := t.rawLevel e, count := 0 } } }
      else t
    let expire (t : State) : State :=
      match t.capture.list with
      | [] => t
      | c :: rest =>
        if t.params.pairMax < (t.belt.p - c.lead).toNat then
          drainTest (placementDecision { capture := c, scan := none }
            { t with capture := { t.capture with list := rest } })
        else t
    let chutes : List Eye :=
      [.chute (.lane .l1), .chute (.lane .l2), .chute (.lane .l3), .chute (.lane .l4),
        .chute (.lane .l5), .chute (.lane .l6), .chute (.lane .l7), .chute (.lane .l8),
        .chute .reject]
    let written (t : State) : State :=
      match p with
      | .prescale => { t with belt := { t.belt with phase := 0 } }
      | .capturePolarity => settle t .cap
      | .lanePolarity => chutes.foldl settle t
      | .eyeFilter => (Eye.cap :: chutes).foldl settle
          { t with
            belt := { t.belt with eyes := t.belt.eyes.map fun f => { f with count := 0 } } }
      | .pairMax => (List.range t.capture.list.length).foldl (fun u _ => expire u) t
      | .laneClasses _ => runBinder t
      | _ => t
    ∃ ps : Params,
      exec (.setParam q) s = .next (withResponse 0x10 q
        (if p.used s.params (q.num 2 4) = q.num 2 4 ∧
            (p = .armDwell → ps.armGap = s.params.armGap) ∧
            (p = .pairMin → ps.pairMax = s.params.pairMax ∧ ps.maxLen = s.params.maxLen)
          then .ok else .adjusted)
        (toBytes 1 (q.num 0 1) ++ toBytes 1 (q.num 1 1) ++
          toBytes 4 (p.used s.params (q.num 2 4)) ++
          (if p = .armDwell then toBytes 4 ps.armGap
            else if p = .pairMin then toBytes 4 ps.pairMax ++ toBytes 4 ps.maxLen else []))
        (written { s with params := ps })) ∧
      ps.read p = p.used s.params (q.num 2 4) ∧
      (p.bounds s.params).1 ≤ ps.read p ∧ ps.read p ≤ (p.bounds s.params).2 ∧
      (∀ r, r ≠ p → p.carries r = false → ps.read r = s.params.read r) ∧
      ps.lockLevel = s.params.lockLevel ∧
      (p = .armDwell → ps.armGap = max s.params.armGap ps.armDwell) ∧
      (p = .pairMin → ps.pairMax = max s.params.pairMax (ps.pairMin + 1) ∧
        ps.maxLen = min s.params.maxLen ps.pairMin)

/-- R181 steps 1 to 4 and 6, and R183: the refusals of SET_PARAM in their sequence, and SET_LOCK. -/
def Obligations.LocksAndChecksRefuseWrites : Prop :=
  (∀ (q : Request) (s : State), Accepts q s → q.body.length = 6 →
    (paramNamed (q.num 0 1) (q.num 1 1) = false →
      exec (.setParam q) s = .next (withResponse 0x10 q .badField [] s)) ∧
    ∀ p, paramOf (q.num 0 1) (q.num 1 1) = some p →
      paramNamed (q.num 0 1) (q.num 1 1) = true ∧
      (p.isChoice = true → 1 < q.num 2 4 →
        exec (.setParam q) s = .next (withResponse 0x10 q .badField [] s)) ∧
      ((p.isChoice = true → q.num 2 4 ≤ 1) →
        ((p.lockClass = .geometry ∧ 1 ≤ s.params.lockLevel) ∨
          (p.lockClass = .timing ∧ 2 ≤ s.params.lockLevel)) →
        exec (.setParam q) s = .next (withResponse 0x10 q .locked [] s)) ∧
      ((p.isChoice = true → q.num 2 4 ≤ 1) →
        lockForbids s.params.lockLevel p.lockClass = false → p.lockClass ≠ .free →
        s.divert.armsLive = true →
        exec (.setParam q) s = .next (withResponse 0x10 q .wrongState [] s)) ∧
      ∀ n, p = .chuteCap n → s.params.lockLevel = 0 → s.divert.armsLive = false →
        max 1 (min 8 (q.num 2 4)) < s.committed n →
        exec (.setParam q) s = .next (withResponse 0x10 q .wrongState [] s)) ∧
  ∀ (q : Request) (s : State), Accepts q s → q.body.length = 1 →
    (2 < q.num 0 1 → exec (.setLock q) s = .next (withResponse 0x12 q .badField [] s)) ∧
    (q.num 0 1 ≤ 2 → q.num 0 1 < s.params.lockLevel →
      exec (.setLock q) s = .next (withResponse 0x12 q .locked [] s)) ∧
    (q.num 0 1 ≤ 2 → s.params.lockLevel ≤ q.num 0 1 →
      exec (.setLock q) s = .next (withResponse 0x12 q .ok (toBytes 1 (q.num 0 1))
        { s with params := { s.params with lockLevel := q.num 0 1 } }))

/-! ### The tables -/

/-- R182, R135, R31, R22, R23 and Section 9.8: what READ_PARAM, READ_RANGE, READ_CLASS, READ_PRODUCT,
READ_ORDER and READ_POSITION answer; they change nothing else. -/
def Obligations.TableReadsAnswerWhatStands : Prop :=
  ∀ (q : Request) (s : State), Accepts q s →
    (q.body.length = 2 →
      (∀ p, paramOf (q.num 0 1) (q.num 1 1) = some p →
        exec (.readParam q) s = .next (withResponse 0x11 q .ok
          (q.body ++ toBytes 4 (s.params.read p) ++
            [match p.lockClass with | .free => (0 : Byte) | .timing => 1 | .geometry => 2]) s)) ∧
      (paramOf (q.num 0 1) (q.num 1 1) = none →
        exec (.readParam q) s = .next (withResponse 0x11 q .badField [] s)) ∧
      (1 < q.num 0 1 ∨ 23 < q.num 1 1 →
        exec (.readRange q) s = .next (withResponse 0x3A q .badField [] s)) ∧
      (∀ r, q.num 0 1 ≤ 1 → q.num 1 1 ≤ 23 →
        (if q.num 0 1 = 0 then s.ranges.ranges else s.wave.ranges)[q.num 1 1]? = some r →
        exec (.readRange q) s = .next (withResponse 0x3A q .ok
          (q.body ++ toBytes 1 (flagNat r.valid) ++ toBytes 3 r.start ++ toBytes 3 r.stop ++
            toBytes 2 r.check.toNat ++ toBytes 2 r.primary.toNat ++
            toBytes 2 r.substitute.toNat) s)) ∧
      (1 < q.num 0 1 ∨ 15 < q.num 1 1 →
        exec (.readClass q) s = .next (withResponse 0x3B q .badField [] s)) ∧
      (∀ e, q.num 0 1 ≤ 1 → q.num 1 1 ≤ 15 →
        (if q.num 0 1 = 0 then s.ranges.classes else s.wave.classes)[q.num 1 1]? = some e →
        exec (.readClass q) s = .next (withResponse 0x3B q .ok
          (q.body ++ toBytes 1 e.shelfDays ++ toBytes 1 (flagNat e.layerRule)) s)) ∧
      (¬ (1 ≤ q.num 0 1 ∧ q.num 0 1 ≤ 8 ∧ 1 ≤ q.num 1 1 ∧ q.num 1 1 ≤ 15) →
        exec (.readPosition q) s = .next (withResponse 0x24 q .badField [] s)) ∧
      (∀ n, laneNumber n = q.num 0 1 → 1 ≤ q.num 1 1 → q.num 1 1 ≤ 15 →
        exec (.readPosition q) s = .next (withResponse 0x24 q .ok
          (toBytes 1 (codeOfLight (light s n (q.num 1 1))) ++
            toBytes 1 (codeOfLane (s.divert.laneStates.get n)) ++
            (match s.book.boundAt n (q.num 1 1) with
              | none => ([0, 0, 0, 0, 0, 0, 0] : List Byte)
              | some o => [0x01] ++ toBytes 4 o.number ++ toBytes 1 o.slot ++
                  toBytes 1 (codeOfOrder o.state))) s))) ∧
    (q.body.length = 4 → ∀ o, q.num 0 4 ≠ 0 → s.book.byNumber (q.num 0 4) = some o →
      exec (.readOrder q) s = .next (withResponse 0x23 q .ok
        (toBytes 1 o.slot ++ toBytes 1 o.cls ++ toBytes 2 o.dueWave ++ toBytes 2 o.dispatchDay ++
          toBytes 2 o.budget ++ toBytes 1 (codeOfOrder o.state) ++
          (match o.position with
            | none => ([0, 0] : List Byte)
            | some (n, p) => toBytes 1 (laneNumber n) ++ toBytes 1 p) ++
          toBytes 1 (flagNat o.short) ++ toBytes 2 o.placedWeight ++ toBytes 2 o.reservedWeight ++
          toBytes 1 (o.placedLayer.getD 0xFF) ++ toBytes 1 o.layerLevel ++
          toBytes 1 (o.layerCounts.getD 0 0) ++ toBytes 1 (o.layerCounts.getD 1 0) ++
          toBytes 1 (o.layerCounts.getD 2 0) ++ toBytes 1 (o.layerCounts.getD 3 0) ++
          toBytes 1 o.lines.length ++ o.lines.flatMap fun l =>
            toBytes 2 l.primary ++ toBytes 2 (l.substitute.getD 0xFFFF) ++ toBytes 1 l.quantity ++
              toBytes 1 l.reserved ++ toBytes 1 l.placed) s)) ∧
    ((q.body.length = 3 ∧ (q.num 0 3 = 0 ∨ q.num 0 3 = 0xFFFFFF)) ∨
        (q.body.length = 2 ∧ 4095 < q.num 0 2) →
      exec (.readProduct q) s = .next (withResponse 0x32 q .badField [] s)) ∧
    ((q.body.length = 3 ∧ q.num 0 3 ≠ 0 ∧ q.num 0 3 ≠ 0xFFFFFF ∧
          ∀ r ∈ s.catalogue, r.code ≠ q.num 0 3) ∨
        (q.body.length = 2 ∧ q.num 0 2 ≤ 4095 ∧ s.catalogue.length ≤ q.num 0 2) →
      exec (.readProduct q) s = .next (withResponse 0x32 q .notFound [] s)) ∧
    ∀ r, CatalogueLaw s → r ∈ s.catalogue →
      ((q.body.length = 3 ∧ r.code = q.num 0 3) ∨
        (q.body.length = 2 ∧ s.catalogue[q.num 0 2]? = some r)) →
      exec (.readProduct q) s = .next (withResponse 0x32 q .ok
        (toBytes 3 r.code ++ toBytes 2 r.group ++ toBytes 1 r.layer ++ toBytes 2 r.nominal ++
          toBytes 1 r.tolerance ++ toBytes 1 (flagNat r.dated) ++
          toBytes 2 (s.catalogue.filter fun x => x.code < r.code).length ++
          toBytes 2 s.catalogue.length) s)

/-- R28, R29: LOAD_PRODUCT inserts or replaces the record of its stock code and no other, so that the next
lookup finds it (R32). R30: DELETE_PRODUCT removes it. -/
def Obligations.ProductsAreLoadedAndDeleted : Prop :=
  (∀ (q : Request) (s : State), Accepts q s → CatalogueLaw s → q.body.length = 10 →
    ((q.num 0 3 = 0 ∨ q.num 0 3 = 0xFFFFFF ∨ 1023 < q.num 3 2 ∨ 3 < q.num 5 1 ∨ q.num 6 2 = 0 ∨
        q.num 6 2 = 0xFFFF) →
      exec (.loadProduct q) s = .next (withResponse 0x30 q .badField [] s)) ∧
    (q.num 0 3 ≠ 0 → q.num 0 3 ≠ 0xFFFFFF → q.num 3 2 ≤ 1023 → q.num 5 1 ≤ 3 → q.num 6 2 ≠ 0 →
      q.num 6 2 ≠ 0xFFFF →
      (lookup (q.num 0 3) s.catalogue = none → 4096 ≤ s.catalogue.length →
        exec (.loadProduct q) s = .next (withResponse 0x30 q .noSpace [] s)) ∧
      ((lookup (q.num 0 3) s.catalogue).isSome = true ∨ s.catalogue.length < 4096 →
        ∃ t : List Product,
          exec (.loadProduct q) s = .next (withResponse 0x30 q
            (if 50 < q.num 8 1 then .adjusted else .ok)
            (toBytes 1 (if (lookup (q.num 0 3) s.catalogue).isSome then 1 else 0) ++
              toBytes 2 (s.catalogue.filter fun x => x.code < q.num 0 3).length ++
              toBytes 2 t.length ++ toBytes 1 (min 50 (q.num 8 1))) { s with catalogue := t }) ∧
          lookup (q.num 0 3) t = some
            { code := q.num 0 3, group := q.num 3 2, layer := q.num 5 1, nominal := q.num 6 2
              tolerance := min 50 (q.num 8 1), dated := q.num 9 1 % 2 == 1 } ∧
          (∀ c, c ≠ q.num 0 3 → lookup c t = lookup c s.catalogue) ∧
          (t.Pairwise fun a b => a.code < b.code) ∧
          t.length = s.catalogue.length +
            (if (lookup (q.num 0 3) s.catalogue).isSome then 0 else 1)))) ∧
  ∀ (q : Request) (s : State), Accepts q s → CatalogueLaw s → q.body.length = 3 →
    (q.num 0 3 = 0 ∨ q.num 0 3 = 0xFFFFFF →
      exec (.deleteProduct q) s = .next (withResponse 0x31 q .badField [] s)) ∧
    (q.num 0 3 ≠ 0 → q.num 0 3 ≠ 0xFFFFFF → lookup (q.num 0 3) s.catalogue = none →
      exec (.deleteProduct q) s = .next (withResponse 0x31 q .notFound [] s)) ∧
    (q.num 0 3 ≠ 0 → q.num 0 3 ≠ 0xFFFFFF → (lookup (q.num 0 3) s.catalogue).isSome = true →
      ∃ t : List Product,
        exec (.deleteProduct q) s = .next (withResponse 0x31 q .ok
          (toBytes 2 (s.catalogue.filter fun x => x.code < q.num 0 3).length ++ toBytes 2 t.length)
          { s with catalogue := t }) ∧
        lookup (q.num 0 3) t = none ∧ (∀ c, c ≠ q.num 0 3 → lookup c t = lookup c s.catalogue) ∧
        t.length + 1 = s.catalogue.length)

/-- R132, R133, R134: STAGE_RANGE rounds its codes outward and replaces the staged entry at its index;
STAGE_CLASS replaces the staged class entry. -/
def Obligations.StagingReplacesStagedEntry : Prop :=
  ∀ (q : Request) (s : State), Accepts q s →
    (q.body.length = 14 →
      (23 < q.num 0 1 ∨ 1 < q.num 1 1 ∨ q.num 5 3 < q.num 2 3 →
        exec (.stageRange q) s = .next (withResponse 0x38 q .badField [] s)) ∧
      (q.num 0 1 ≤ 23 → q.num 1 1 ≤ 1 → q.num 2 3 ≤ q.num 5 3 → ∃ start stop : Nat,
        start % 16 = 0 ∧ start ≤ q.num 2 3 ∧ q.num 2 3 < start + 16 ∧
        stop % 16 = 15 ∧ q.num 5 3 ≤ stop ∧ stop < q.num 5 3 + 16 ∧
        exec (.stageRange q) s = .next (withResponse 0x38 q
          (if start = q.num 2 3 ∧ stop = q.num 5 3 then .ok else .adjusted)
          (toBytes 1 (q.num 0 1) ++ toBytes 3 start ++ toBytes 3 stop ++ toBytes 1 (q.num 1 1))
          { s with
            wave :=
              { s.wave with
                ranges := s.wave.ranges.set (q.num 0 1)
                  { valid := q.num 1 1 == 1, start := start, stop := stop
                    check := BitVec.ofNat 16 (q.num 8 2)
                    primary := BitVec.ofNat 16 (q.num 10 2)
                    substitute := BitVec.ofNat 16 (q.num 12 2) } } }))) ∧
    (q.body.length = 3 →
      (15 < q.num 0 1 ∨ 1 < q.num 2 1 →
        exec (.stageClass q) s = .next (withResponse 0x39 q .badField [] s)) ∧
      (q.num 0 1 ≤ 15 → q.num 2 1 ≤ 1 →
        exec (.stageClass q) s = .next (withResponse 0x39 q .ok
          (toBytes 1 (q.num 0 1) ++ toBytes 1 (q.num 1 1) ++ toBytes 1 (q.num 2 1))
          { s with
            wave :=
              { s.wave with
                classes := s.wave.classes.set (q.num 0 1)
                  { shelfDays := q.num 1 1, layerRule := q.num 2 1 == 1 } } })))

/-- R35, R36: the permission test over the active ranges. -/
def Obligations.PermissionNeedsEveryRelevantRange : Prop :=
  ∀ (s : State) (code cls : Nat) (k : Kind),
    let relevant : Nat → Prop := fun i => ∃ r, s.ranges.ranges[i]? = some r ∧ r.valid = true ∧
      r.start ≤ code ∧ code ≤ r.stop ∧ r.check.getLsbD cls = true
    let lacks : Nat → Prop := fun i => ∃ r, s.ranges.ranges[i]? = some r ∧
      (match k with | .primary => r.primary | .substitute => r.substitute).getLsbD cls = false
    ((¬ ∃ i, relevant i) → refusalCause s code cls k =
      match s.params.defaultAllow with | .allow => none | .refuse => some .default) ∧
    ((∃ i, relevant i) →
      (refusalCause s code cls k = none ↔ ∀ i, relevant i → ¬ lacks i) ∧
      ∀ c, refusalCause s code cls k = some c ↔
        ∃ i, c = .range i ∧ relevant i ∧ lacks i ∧ ∀ j, j < i → relevant j → ¬ lacks j)

/-- R39: what a class refusal leaves in the refusal record and reports. R41: CLEAR_REFUSAL empties it. -/
def Obligations.RefusalRecordKeepsTheFirst : Prop :=
  (∀ (c : Candidate) (cause : Cause) (sc : Scan) (s : State), ∃ u : ClassRangeUnit,
    classRefusal c cause sc s = report
      { kind := .classRefusal
        detail := match cause with | .range i => i | .default => 0xFF
        lane := laneNumber c.lane, position := some c.position, order := c.order.number
        stock := sc.stock, carrier := sc.carrier } { s with ranges := u } ∧
    u.ranges = s.ranges.ranges ∧ u.classes = s.ranges.classes ∧
    u.count = (if s.ranges.count < 65535 then s.ranges.count + 1 else s.ranges.count) ∧
    (s.ranges.record = none → u.more = s.ranges.more ∧ u.record = some
      { stock := sc.stock, cls := c.order.cls, kind := c.kind, cause := cause
        wave := s.wave.counter, order := c.order.number }) ∧
    (s.ranges.record ≠ none → u.record = s.ranges.record ∧ u.more = true)) ∧
  ∀ (q : Request) (s : State), Accepts q s → q.body = [] →
    exec (.clearRefusal q) s = .next (withResponse 0x06 q .ok
      (toBytes 2 s.ranges.count ++ toBytes 1 (flagNat s.ranges.more))
      { s with ranges := { s.ranges with record := none, count := 0, more := false } })

/-! ### Waves -/

/-- R136, R137, R139: ADVANCE_WAVE is performed at once, latched while HELD, or BUSY while a latch is
held. -/
def Obligations.AdvanceIsPerformedLatchedOrBusy : Prop :=
  ∀ (q : Request) (s : State), Accepts q s → q.body = [] →
    (s.wave.latch ≠ .notHeld → exec (.advanceWave q) s =
      .next (withResponse 0x40 q .busy (toBytes 2 s.wave.counter) s)) ∧
    (s.wave.latch = .notHeld → s.pause.state = .held → exec (.advanceWave q) s =
      .next (withResponse 0x40 q .ok
        ([0x01] ++ toBytes 2 s.wave.counter ++ toBytes 2 s.wave.releases ++ [0x00, 0x00])
        { s with wave := { s.wave with latch := .requested } })) ∧
    (s.wave.latch = .notHeld → s.pause.state ≠ .held →
      let counter := if s.wave.counter < 65535 then s.wave.counter + 1 else s.wave.counter
      exec (.advanceWave q) s = .next (withResponse 0x40 q .ok
        ([0x00] ++ toBytes 2 counter ++ toBytes 2 s.wave.releases ++
          toBytes 2 (s.book.orders.filter fun o => o.state == .staged).length)
        (report { kind := .waveAdvanced, detail := 0 } (promote
          { s with
            wave := { s.wave with counter := counter, releases := 0, latch := .notHeld }
            ranges :=
              { s.ranges with ranges := s.wave.ranges, classes := s.wave.classes } }))))

/-- R130: the wave counter is not lowered by any command but a reset, which sets it to 0; an advance raises
it by 1 up to 65535. -/
def Obligations.WaveCounterNeverFalls : Prop :=
  (∀ (c : Instr) (s t : State), exec c s = .next t →
    s.wave.counter ≤ t.wave.counter ∨ (c.isReset = true ∧ t.wave.counter = 0)) ∧
  ∀ (detail : Nat) (s : State), s.wave.counter ≤ 65535 →
    (advance detail s).wave.counter = min 65535 (s.wave.counter + 1)

/-! ### The Order Book -/

/-- R3, R4, R5, R6: the checks of LOAD_ORDER in their sequence, and what an accepted load enters; with the
release-now flag the order joins the queued list and the binder runs (R7). -/
def Obligations.LoadOrderIsCheckedAndEntered : Prop :=
  ∀ (q : Request) (s : State), Accepts q s → q.loadLengthFits = true →
    (¬ orderFieldsGood q → exec (.loadOrder q) s = .next (withResponse 0x20 q .badField [] s)) ∧
    (orderFieldsGood q → (∃ o ∈ s.book.orders, o.number = q.num 0 4) →
      exec (.loadOrder q) s = .next (withResponse 0x20 q .duplicate [] s)) ∧
    (orderFieldsGood q → (∀ o ∈ s.book.orders, o.number ≠ q.num 0 4) →
      ((∀ k, k < 256 → ∃ o ∈ s.book.orders, o.slot = k) ∨ s.book.freeLines < q.num 12 1) →
      exec (.loadOrder q) s = .next (withResponse 0x20 q .noSpace [] s)) ∧
    ∀ slot, orderFieldsGood q → (∀ o ∈ s.book.orders, o.number ≠ q.num 0 4) →
      lowestEmpty s.book slot → q.num 12 1 ≤ s.book.freeLines →
      let o := orderLoaded q slot
      let b : OrderBook :=
        { s.book with
          orders := s.book.orders.takeWhile (fun x => x.slot < slot) ++ o ::
            s.book.orders.dropWhile (fun x => x.slot < slot)
          freeLines := s.book.freeLines - q.num 12 1 }
      let t : State :=
        if q.num 5 1 % 2 = 1 then
          runBinder
            { s with
              book :=
                { b with
                  orders := b.orders.map fun x =>
                    if x.slot = slot then { x with state := .queued } else x
                  queued := b.queued.takeWhile (fun i => b.dueWaveOf i ≤ o.dueWave) ++ slot ::
                    b.queued.dropWhile (fun i => b.dueWaveOf i ≤ o.dueWave) } }
        else { s with book := b }
      exec (.loadOrder q) s = .next (withResponse 0x20 q
        (if o.budget = q.num 10 2 ∧ (List.range (q.num 12 1)).all (fun i => !subDropped q i) = true
          then .ok else .adjusted)
        (toBytes 1 slot ++ toBytes 1 (((t.book.atSlot slot).map fun x => codeOfOrder x.state).getD 0) ++
          toBytes 2 o.budget ++
          toBytes 2 ((List.range (q.num 12 1)).map fun i =>
            if subDropped q i then 2 ^ i else 0).sum ++
          toBytes 2 t.book.freeLines) t)

/-- R17, R18, R22: what CANCEL_ORDER, SHORT_CLOSE and READ_ORDER refuse; R18: the cancel of a STAGED or QUEUED
order makes its slot EMPTY. -/
def Obligations.CancelEmptiesUnboundOrder : Prop :=
  ∀ (q : Request) (s : State), Accepts q s → q.body.length = 4 →
    (q.num 0 4 = 0 →
      exec (.cancelOrder q) s = .next (withResponse 0x21 q .badField [] s) ∧
      exec (.shortClose q) s = .next (withResponse 0x22 q .badField [] s) ∧
      exec (.readOrder q) s = .next (withResponse 0x23 q .badField [] s)) ∧
    (q.num 0 4 ≠ 0 → (∀ o ∈ s.book.orders, o.number ≠ q.num 0 4) →
      exec (.cancelOrder q) s = .next (withResponse 0x21 q .notFound [] s) ∧
      exec (.shortClose q) s = .next (withResponse 0x22 q .notFound [] s) ∧
      exec (.readOrder q) s = .next (withResponse 0x23 q .notFound [] s)) ∧
    ∀ o, q.num 0 4 ≠ 0 → s.book.byNumber (q.num 0 4) = some o →
      (o.state = .complete ∨ o.state = .cancelled →
        exec (.cancelOrder q) s = .next (withResponse 0x21 q .wrongState [] s)) ∧
      (o.state ≠ .opened → exec (.shortClose q) s = .next (withResponse 0x22 q .wrongState [] s)) ∧
      (o.state = .staged ∨ o.state = .queued →
        exec (.cancelOrder q) s = .next (withResponse 0x21 q .ok [0x00]
          { s with
            book :=
              { orders := s.book.orders.filter fun x => x.slot != o.slot
                freeLines := s.book.freeLines + o.lines.length
                queued := s.book.queued.filter fun i => i != o.slot }
            status :=
              { s.status with counters := s.status.counters.modify 18 bump } }))

/-- R18, R19, R115: a cancel of an OPEN or SHORTING order gives up every item that holds a reservation on it,
each in its place, and leaves the order CANCELLED, bound as it was and with no reservation. -/
def Obligations.CancelInFlightGivesUpItems : Prop :=
  ∀ (q : Request) (s : State) (o : Order), Accepts q s → BookLaw s → AccountsLaw s →
    q.body.length = 4 → q.num 0 4 ≠ 0 → s.book.byNumber (q.num 0 4) = some o →
    (o.state = .opened ∨ o.state = .shorting) →
    ∃ t : State, exec (.cancelOrder q) s = .next (withResponse 0x21 q .ok [0x06] t) ∧
      (∃ u : Order, t.book.atSlot o.slot = some u ∧ u.number = o.number ∧ u.state = .cancelled ∧
        u.position = o.position ∧ u.short = o.short ∧ u.placedWeight = o.placedWeight ∧
        u.placedLayer = o.placedLayer ∧ u.reservedWeight = 0 ∧
        u.lines = o.lines.map (fun l => { l with reserved := 0 }) ∧
        u.layerCounts = [0, 0, 0, 0]) ∧
      (∀ k, k ≠ o.slot → t.book.atSlot k = s.book.atSlot k) ∧
      t.book.freeLines = s.book.freeLines ∧ t.book.queued = s.book.queued ∧
      t.divert = { s.divert with
        queue := s.divert.queue.map fun e =>
          match e.dest, e.state with
          | .place n _ k _ _, .fired _ _ => if k = o.slot then { e with dest := .voidLane n } else e
          | .place _ _ k _ _, .scheduled _ =>
            if k = o.slot then { e with state := .outbound .cancelled } else e
          | _, _ => e } ∧
      (∀ n, t.wall.chutes.get n = (s.wall.chutes.get n).map fun e =>
        match e.kind with
        | .put _ k _ => if k = o.slot then { e with kind := .void } else e
        | _ => e) ∧
      claims t o.slot = [] ∧ t.wall.rx = s.wall.rx ∧ t.link = s.link ∧
      t.status = { s.status with counters := s.status.counters.modify 18 bump } ∧
      t.pending = s.pending ∧ t.inReset = s.inReset ∧ t.pins = s.pins ∧ t.belt = s.belt ∧
      t.capture = s.capture ∧ t.catalogue = s.catalogue ∧ t.ranges = s.ranges ∧
      t.recirc = s.recirc ∧ t.wave = s.wave ∧ t.pause = s.pause ∧ t.params = s.params

/-- R17, R16: a short close of an OPEN order completes it at once, or makes it SHORTING while reservations
are in flight. -/
def Obligations.ShortCloseCompletesOrShorts : Prop :=
  ∀ (q : Request) (s : State) (o : Order), Accepts q s → q.body.length = 4 → q.num 0 4 ≠ 0 →
    s.book.byNumber (q.num 0 4) = some o → o.state = .opened →
    let changed (st : OrderState) : State :=
      { s with
        book :=
          { s.book with
            orders := s.book.orders.map fun x =>
              if x.slot = o.slot then { x with state := st, short := true } else x } }
    ((o.lines.map (·.reserved)).sum = 0 →
      exec (.shortClose q) s = .next (withResponse 0x22 q .ok [0x05, 0x00] (relight s
        (count .ordersCompleted (report
          { kind := .orderComplete, detail := 1
            lane := (o.position.map fun p => laneNumber p.1).getD 0
            position := o.position.map (·.2), order := o.number } (changed .complete)))))) ∧
    ((o.lines.map (·.reserved)).sum ≠ 0 →
      exec (.shortClose q) s = .next (withResponse 0x22 q .ok
        ([0x04] ++ toBytes 1 (o.lines.map (·.reserved)).sum) (relight s (changed .shorting))))

/-- R11, R12, R13, R16: what reserve, confirm and release do to an order's accounts, and the complete-check
that follows a confirm and a release. -/
def Obligations.ReservationAccountsAreKept : Prop :=
  ∀ (slot line w l : Nat) (s : State),
    let changed (f : Order → Order) : State :=
      { s with
        book :=
          { s.book with orders := s.book.orders.map fun o => if o.slot = slot then f o else o } }
    reserve slot line w l s = changed (fun o =>
      { o with
        lines := o.lines.modify line fun x => { x with reserved := x.reserved + 1 }
        reservedWeight := o.reservedWeight + w
        layerCounts := o.layerCounts.modify l fun n => n + 1 }) ∧
    confirm slot line w l s = completeCheck slot (changed fun o =>
      { o with
        lines := o.lines.modify line fun x =>
          { x with reserved := x.reserved - 1, placed := x.placed + 1 }
        reservedWeight := o.reservedWeight - w
        placedWeight := o.placedWeight + w
        layerCounts := o.layerCounts.modify l fun n => n - 1
        placedLayer :=
          match o.placedLayer with
          | none => some l
          | some m => some (max m l) }) ∧
    release slot line w l s = completeCheck slot (changed fun o =>
      { o with
        lines := o.lines.modify line fun x => { x with reserved := x.reserved - 1 }
        reservedWeight := o.reservedWeight - w
        layerCounts := o.layerCounts.modify l fun n => n - 1 }) ∧
    (s.book.atSlot slot = none → completeCheck slot s = s) ∧
    ∀ o, s.book.atSlot slot = some o →
      let completed (short : Bool) : State := count .ordersCompleted (report
        { kind := .orderComplete, detail := if short then 1 else 0
          lane := (o.position.map fun p => laneNumber p.1).getD 0
          position := o.position.map (·.2), order := o.number }
        { s with
          book :=
            { s.book with
              orders := s.book.orders.map fun x =>
                if x.slot = o.slot then { x with state := .complete, short := short } else x } })
      (o.state = .opened → (∀ x ∈ o.lines, x.placed = x.quantity) →
        completeCheck slot s = completed false) ∧
      (o.state = .opened → (∃ x ∈ o.lines, x.placed ≠ x.quantity) → completeCheck slot s = s) ∧
      (o.state = .shorting → (o.lines.map (·.reserved)).sum = 0 →
        completeCheck slot s = completed true) ∧
      (o.state = .shorting → (o.lines.map (·.reserved)).sum ≠ 0 → completeCheck slot s = s) ∧
      (o.state ≠ .opened → o.state ≠ .shorting → completeCheck slot s = s)

/-- R7, R8, R9: a run of the binder changes the Order Book alone; it binds QUEUED orders to free positions
of ENABLED lanes whose LANE_CLASSES have their class, leaves every other order as it is, and leaves no
such position free while such an order is QUEUED. It binds first the first such position, in ascending lane
and then position, that a queued order fits, to the first order of the queued list that fits, and runs on from
there. Promotion makes every STAGED order join the queued list, in ascending slot order, and runs the binder
once; where no order is STAGED it changes nothing. -/
def Obligations.BinderLeavesNoMatchUnbound : Prop :=
  ∀ s : State, BookLaw s →
    (runBinder s = { s with book := (runBinder s).book } ∧
      (runBinder s).book.freeLines = s.book.freeLines ∧
      (∀ k, ∀ u ∈ (runBinder s).book.atSlot k, ∃ o ∈ s.book.atSlot k, u = o ∨
        (o.state = .queued ∧ ∃ n p, s.laneEnabled n = true ∧ 1 ≤ p ∧ p ≤ 15 ∧
          (s.params.laneClasses.get n).getLsbD o.cls = true ∧ s.book.boundAt n p = none ∧
          u = { o with state := .opened, position := some (n, p) })) ∧
      (∀ k, ((runBinder s).book.atSlot k).isSome = (s.book.atSlot k).isSome) ∧
      ∀ n p, s.laneEnabled n = true → 1 ≤ p → p ≤ 15 → (runBinder s).book.boundAt n p = none →
        ∀ o ∈ (runBinder s).book.orders, o.state = .queued →
          (s.params.laneClasses.get n).getLsbD o.cls = false) ∧
    (let fits (m : Lane) (k : Nat) : Prop :=
        ∃ o, s.book.atSlot k = some o ∧ (s.params.laneClasses.get m).getLsbD o.cls = true
      let takes (m : Lane) (r : Nat) : Prop :=
        s.laneEnabled m = true ∧ 1 ≤ r ∧ r ≤ 15 ∧ s.book.boundAt m r = none ∧
          ∃ k ∈ s.book.queued, fits m k;
      ((∀ m r, ¬ takes m r) → runBinder s = s) ∧
      ∀ n p pre k post, takes n p → s.book.queued = pre ++ k :: post → fits n k →
        (∀ i ∈ pre, ¬ fits n i) →
        (∀ m r, (laneNumber m < laneNumber n ∨ (m = n ∧ r < p)) → ¬ takes m r) →
        runBinder s = runBinder
          { s with
            book :=
              { s.book with
                orders := s.book.orders.map fun x =>
                  if x.slot = k then { x with state := .opened, position := some (n, p) } else x
                queued := pre ++ post } }) ∧
    (let join (t : State) (o : Order) : State :=
        { t with
          book :=
            { t.book with
              orders := t.book.orders.map fun x =>
                if x.slot = o.slot then { x with state := .queued } else x
              queued := t.book.queued.takeWhile (fun i => t.book.dueWaveOf i ≤ o.dueWave) ++
                o.slot :: t.book.queued.dropWhile (fun i => t.book.dueWaveOf i ≤ o.dueWave) } };
      (∃ o ∈ s.book.orders, o.state = .staged) →
        promote s = runBinder ((s.book.orders.filter fun o => o.state == .staged).foldl join s)) ∧
    (promote s = { s with book := (promote s).book } ∧
      (∀ o ∈ (promote s).book.orders, o.state ≠ .staged) ∧
      ((∀ o ∈ s.book.orders, o.state ≠ .staged) → promote s = s))

/-! ### The Divert Scheduler -/

/-- R92: the fire of an arm. R93: the end of its dwell, and the lapse of its last fire position. That a step
named when it is not due changes nothing is the model's (notes/assumptions/4.md). -/
def Obligations.ArmsFireDwellAndLapse : Prop :=
  ∀ (a : Arm) (s : State), s.inReset = false →
    (∀ pre e post, s.divert.queue = pre ++ e :: post → e.dest.arm = some a →
      e.state = .scheduled s.belt.p →
      (∀ x ∈ pre, x.dest.arm = some a → x.state ≠ .scheduled s.belt.p) →
      exec (.fire a) s = .next
        { s with
          divert :=
            { s.divert with
              queue := pre ++
                { e with
                  state := .fired s.belt.p
                    (s.belt.p + BitVec.ofNat 16 s.params.confirmWindow) } :: post
              arms := s.divert.arms.set a
                { lastFire := some s.belt.p
                  output := some (s.belt.p + BitVec.ofNat 16 s.params.armDwell)
                  lapseDue := false } }
          status := { s.status with counters := s.status.counters.modify 12 bump } }) ∧
    ((∀ x ∈ s.divert.queue, x.dest.arm = some a → x.state ≠ .scheduled s.belt.p) →
      exec (.fire a) s = .next s) ∧
    ((s.divert.arms.get a).output = some s.belt.p → exec (.dwellEnd a) s = .next
      { s with
        divert :=
          { s.divert with
            arms := s.divert.arms.set a { s.divert.arms.get a with output := none } } }) ∧
    ((s.divert.arms.get a).output ≠ some s.belt.p → exec (.dwellEnd a) s = .next s) ∧
    ((s.divert.arms.get a).lapseDue = true → exec (.lastFireLapse a) s = .next
      { s with
        divert :=
          { s.divert with
            arms := s.divert.arms.set a
              { s.divert.arms.get a with lastFire := none, lapseDue := false } } }) ∧
    ((s.divert.arms.get a).lapseDue = false → exec (.lastFireLapse a) s = .next s)

/-- R96: the miss of a FIRED entry at its confirm deadline. That the command names the entry by its tag, and
changes nothing when it is not due, are the model's (notes/assumptions/29.md, notes/assumptions/4.md). -/
def Obligations.MissedEntryGoesOutbound : Prop :=
  ∀ (tag : Tag) (s : State), s.inReset = false →
    (∀ pre e post f, s.divert.queue = pre ++ e :: post → e.tag = tag →
      e.state = .fired f s.belt.p →
      (∀ x ∈ pre, x.tag = tag → ∀ g, x.state ≠ .fired g s.belt.p) →
      let missed : State := count .misses (report
        { kind := .missedDivert
          detail := match e.dest with
            | .place _ _ _ _ _ => 0
            | .voidLane _ => 1
            | _ => 2
          lane := match e.dest with
            | .place n _ _ _ _ => laneNumber n
            | .voidLane n => laneNumber n
            | .reject _ => 9
            | .recirculate _ => 0
          position := match e.dest with
            | .place _ p _ _ _ => some p
            | _ => none
          order := match e.dest with
            | .place _ _ slot _ _ => ((s.book.atSlot slot).map (·.number)).getD 0
            | _ => 0
          stock := e.stock.getD 0
          carrier := e.carrier.getD 0 }
        { s with
          divert :=
            { s.divert with queue := pre ++ { e with state := .outbound .missed } :: post } })
      exec (.missedDivert tag) s = .next (relight s
        (match e.dest with
          | .place _ _ slot line _ =>
            release slot line ((e.weight.map (·.grams)).getD 0) (e.layer.getD 0) missed
          | _ => missed))) ∧
    ((∀ x ∈ s.divert.queue, x.tag = tag → ∀ g, x.state ≠ .fired g s.belt.p) →
      exec (.missedDivert tag) s = .next s)

/-- R98: the exit of an OUTBOUND entry at its exit position. R87: the pass it counts. That the command names the
entry by its tag, and changes nothing when it is not due, are the model's (notes/assumptions/29.md,
notes/assumptions/4.md). -/
def Obligations.ExitCountsAPass : Prop :=
  (∀ (tag : Tag) (s : State), s.inReset = false →
    (∀ pre e post r, s.divert.queue = pre ++ e :: post → e.tag = tag → e.state = .outbound r →
      e.exitAt = s.belt.p →
      (∀ x ∈ pre, x.tag = tag → x.exitAt = s.belt.p → ∀ g, x.state ≠ .outbound g) →
      exec (.exit tag) s = .next (drainTest
        { s with
          divert := { s.divert with queue := pre ++ post }
          status := { s.status with counters := s.status.counters.modify 11 bump }
          recirc :=
            match e.carrier with
            | none => s.recirc
            | some c =>
              if c ≠ 0 ∧ (r = .unplaceable ∨ r = .missed ∨ r = .rejectBlocked) then
                countPass c s.recirc
              else s.recirc })) ∧
    ((∀ x ∈ s.divert.queue, x.tag = tag → x.exitAt = s.belt.p → ∀ g, x.state ≠ .outbound g) →
      exec (.exit tag) s = .next s)) ∧
  ∀ (c : Nat) (t : List Recirc),
    (∀ pre r post, t = pre ++ r :: post → r.carrier = c → (∀ x ∈ pre, x.carrier ≠ c) →
      countPass c t = pre ++ { r with passes := min (r.passes + 1) 7 } :: post) ∧
    ((∀ x ∈ t, x.carrier ≠ c) → t.length < 64 →
      countPass c t = t ++ [{ carrier := c, passes := 1 }]) ∧
    ((∀ x ∈ t, x.carrier ≠ c) → 64 ≤ t.length →
      countPass c t = t.drop 1 ++ [{ carrier := c, passes := 1 }])

/-- R103, R104, R105: the jam of a lane and of the reject arm; the SCHEDULED entries of the arm become
OUTBOUND, and a release is made for each PLACE entry among them. That a jam not due changes nothing, the mark of
what is due, and the report before the releases are the model's (notes/assumptions/4.md, 6.md, 14.md). -/
def Obligations.JamGivesUpScheduledEntries : Prop :=
  (∀ (n : Lane) (b : Pos) (r : ReturnState) (s : State), s.inReset = false →
    s.divert.eyes.get (.lane n) = { blockStart := some b, jamDue := true } →
    (s.divert.laneStates.get n = match r with | .enabled => .enabled | .disabled => .disabled) →
    let jammed : State := report
      { kind := .laneJam, detail := (match r with | .enabled => 0 | .disabled => 1)
        lane := laneNumber n }
      { s with
        divert :=
          { s.divert with
            laneStates := s.divert.laneStates.set n (.jammed r)
            eyes := s.divert.eyes.set (.lane n) { blockStart := some b, jamDue := false } } }
    exec (.laneJam (.lane n)) s = .next (relight s
      ((s.divert.queue.filter (Entry.scheduledOn (.lane n))).foldl (fun t e => releaseEntry e t)
        { jammed with
          divert :=
            { jammed.divert with
              queue := s.divert.queue.map fun e =>
                if e.scheduledOn (.lane n) then { e with state := .outbound .jam } else e } }))) ∧
  (∀ (b : Pos) (s : State), s.inReset = false →
    s.divert.eyes.get .reject = { blockStart := some b, jamDue := true } →
    s.divert.rejectJammed = false →
    let jammed : State := report { kind := .laneJam, detail := 0, lane := 9 }
      { s with
        divert :=
          { s.divert with
            rejectJammed := true
            eyes := s.divert.eyes.set .reject { blockStart := some b, jamDue := false } } }
    exec (.laneJam .reject) s = .next
      { jammed with
        divert :=
          { jammed.divert with
            queue := s.divert.queue.map fun e =>
              if e.scheduledOn .reject then { e with state := .outbound .rejectBlocked }
              else e } }) ∧
  ∀ (a : Arm) (s : State),
    ((s.divert.eyes.get a).blockStart = none ∨ (s.divert.eyes.get a).jamDue = false ∨
      s.jammed a = true) → exec (.laneJam a) s = .next s

/-- R94, R95, R113, R114: a blocking edge of a chute eye confirms the oldest FIRED entry that awaits it, or
finds a stray; a full chute list gives up its oldest STRAY for a confirmed item. R106: a clearing edge clears a
jam. R88, R103: the record and the block start, and a jam the latest count made due, which is taken before the
edge that clears it. That a chute entry keeps the group is the model's reading (notes/assumptions/30.md), and
the mark of a due jam is the model's own (notes/assumptions/6.md). -/
def Obligations.ChuteEyeConfirmsOldestFired : Prop :=
  ∀ (s : State),
    let stamped (a : Arm) : State :=
      { s with
        divert :=
          { s.divert with
            eyes := s.divert.eyes.set a { blockStart := some s.belt.p, jamDue := false } } }
    let cleared (a : Arm) : State :=
      { s with
        divert :=
          { s.divert with
            eyes := s.divert.eyes.set a { blockStart := none, jamDue := false } } }
    let forgotten (carrier : Option Nat) : List Recirc :=
      match carrier with
      | none => s.recirc
      | some c => if c = 0 then s.recirc else s.recirc.eraseP fun r => r.carrier == c
    let arrived (e : Entry) : ChuteEntry :=
      { kind := match e.dest with
          | .place _ p slot line _ => .put p slot line
          | _ => .void
        stock := e.stock, carrier := e.carrier, group := e.group, weight := e.weight
        layer := e.layer }
    (∀ n pre e post, s.divert.queue = pre ++ e :: post → e.awaits (.lane n) = true →
      (∀ x ∈ pre, x.awaits (.lane n) = false) →
      let confirmed (l : List ChuteEntry) : State := relight s (drainTest
        { stamped (.lane n) with
          divert := { (stamped (.lane n)).divert with queue := pre ++ post }
          recirc := forgotten e.carrier
          wall := { s.wall with chutes := s.wall.chutes.set n l } })
      ((s.wall.chutes.get n).length < 16 →
        takeEdge (.chute (.lane n)) true s =
          confirmed (s.wall.chutes.get n ++ [arrived e])) ∧
      ∀ older x newer, s.wall.chutes.get n = older ++ x :: newer →
        16 ≤ (s.wall.chutes.get n).length → x.kind = .stray → (∀ y ∈ older, y.kind ≠ .stray) →
        takeEdge (.chute (.lane n)) true s = confirmed (older ++ newer ++ [arrived e])) ∧
    (∀ n, (∀ x ∈ s.divert.queue, x.awaits (.lane n) = false) →
      let t := count .strays (report
        { kind := .strayItem, detail := (s.wall.chutes.get n).length, lane := laneNumber n }
        (stamped (.lane n)))
      takeEdge (.chute (.lane n)) true s = relight s
        { t with
          wall :=
            { t.wall with
              chutes := t.wall.chutes.set n
                (if (s.wall.chutes.get n).length < 16 then
                  s.wall.chutes.get n ++ [{ kind := .stray, stock := none, carrier := none
                                            group := none, weight := none, layer := none }]
                else s.wall.chutes.get n) } }) ∧
    (∀ pre e post, s.divert.queue = pre ++ e :: post → e.awaits .reject = true →
      (∀ x ∈ pre, x.awaits .reject = false) →
      takeEdge (.chute .reject) true s = relight s (drainTest
        { stamped .reject with
          divert := { (stamped .reject).divert with queue := pre ++ post }
          recirc := forgotten e.carrier })) ∧
    ((∀ x ∈ s.divert.queue, x.awaits .reject = false) →
      takeEdge (.chute .reject) true s = relight s (count .strays (report
        { kind := .strayItem, detail := 0, lane := 9 } (stamped .reject)))) ∧
    (∀ a u, s.inReset = false → exec (.laneJam a) s = .next u →
      takeEdge (.chute a) false s = takeEdge (.chute a) false u) ∧
    (∀ n, s.jammed (.lane n) = false → (s.divert.eyes.get (.lane n)).jamDue = false →
      takeEdge (.chute (.lane n)) false s = cleared (.lane n)) ∧
    (∀ n, s.divert.laneStates.get n = .jammed .disabled →
      takeEdge (.chute (.lane n)) false s = report
        { kind := .laneJamCleared, detail := 1, lane := laneNumber n }
        { cleared (.lane n) with
          divert :=
            { (cleared (.lane n)).divert with
              laneStates := s.divert.laneStates.set n .disabled } }) ∧
    (∀ n, s.divert.laneStates.get n = .jammed .enabled →
      takeEdge (.chute (.lane n)) false s = runBinder (report
        { kind := .laneJamCleared, detail := 0, lane := laneNumber n }
        { cleared (.lane n) with
          divert :=
            { (cleared (.lane n)).divert with
              laneStates := s.divert.laneStates.set n .enabled } })) ∧
    (s.divert.rejectJammed = true → takeEdge (.chute .reject) false s = report
      { kind := .laneJamCleared, detail := 0, lane := 9 }
      { cleared .reject with
        divert := { (cleared .reject).divert with rejectJammed := false } }) ∧
    (s.divert.rejectJammed = false → (s.divert.eyes.get .reject).jamDue = false →
      takeEdge (.chute .reject) false s = cleared .reject)

/-- R107, R108: ARM_LANES. R109, R110: DISARM_LANES. The order of the releases, from the head of the belt queue,
is the model's (notes/assumptions/14.md). -/
def Obligations.ArmsAreSetAndCleared : Prop :=
  ∀ (q : Request) (s : State), Accepts q s → q.body = [] →
    let least := max s.params.rejectDist (max (max (max (s.params.laneDist.get .l1)
      (s.params.laneDist.get .l2)) (max (s.params.laneDist.get .l3) (s.params.laneDist.get .l4)))
      (max (max (s.params.laneDist.get .l5) (s.params.laneDist.get .l6))
        (max (s.params.laneDist.get .l7) (s.params.laneDist.get .l8)))) +
      s.params.confirmWindow + 1
    (s.pause.stopAsserted = true →
      exec (.armLanes q) s = .next (withResponse 0x50 q .wrongState [] s)) ∧
    (s.pause.stopAsserted = false → s.params.exitDist < least →
      exec (.armLanes q) s = .next (withResponse 0x50 q .inconsistent (toBytes 2 least) s)) ∧
    (s.pause.stopAsserted = false → least ≤ s.params.exitDist →
      exec (.armLanes q) s = .next (withResponse 0x50 q .ok [0x01]
        { s with divert := { s.divert with armsLive := true } })) ∧
    (s.divert.armsLive = false →
      exec (.disarmLanes q) s = .next (withResponse 0x51 q .ok [0x00] s)) ∧
    (s.divert.armsLive = true →
      exec (.disarmLanes q) s = .next (withResponse 0x51 q .ok
        (toBytes 1 (s.divert.queue.filter Entry.isScheduled).length)
        (relight s ((s.divert.queue.filter Entry.isScheduled).foldl
          (fun t e => releaseEntry e t)
          { s with
            divert :=
              { s.divert with
                armsLive := false
                arms := s.divert.arms.map fun r => { r with output := none }
                queue := s.divert.queue.map fun e =>
                  if e.isScheduled then { e with state := .outbound .armsOff } else e } }))))

/-- R101, R102: LANE_ENABLE and LANE_DISABLE in each lane state. -/
def Obligations.LanesAreEnabledAndDisabled : Prop :=
  ∀ (q : Request) (s : State), Accepts q s → q.body.length = 1 →
    (q.num 0 1 = 0 ∨ 8 < q.num 0 1 →
      exec (.laneEnable q) s = .next (withResponse 0x52 q .badField [] s) ∧
      exec (.laneDisable q) s = .next (withResponse 0x53 q .badField [] s)) ∧
    ∀ n, laneNumber n = q.num 0 1 →
      let changed (st : LaneState) : State :=
        { s with divert := { s.divert with laneStates := s.divert.laneStates.set n st } }
      (s.divert.laneStates.get n = .enabled →
        exec (.laneEnable q) s = .next (withResponse 0x52 q .ok [0x00, 0xFF] s) ∧
        exec (.laneDisable q) s = .next
          (withResponse 0x53 q .ok [0x01, 0xFF] (changed .disabled))) ∧
      (s.divert.laneStates.get n = .disabled →
        exec (.laneEnable q) s = .next
          (withResponse 0x52 q .ok [0x00, 0xFF] (runBinder (changed .enabled))) ∧
        exec (.laneDisable q) s = .next (withResponse 0x53 q .ok [0x01, 0xFF] s)) ∧
      ∀ r, s.divert.laneStates.get n = .jammed r →
        exec (.laneEnable q) s = .next
          (withResponse 0x52 q .ok [0x02, 0x00] (changed (.jammed .enabled))) ∧
        exec (.laneDisable q) s = .next
          (withResponse 0x53 q .ok [0x02, 0x01] (changed (.jammed .disabled)))

/-! ### The Belt Position Unit and the Capture Unit -/

/-- R42, R46, R48, and what a count makes due (R93, R103): an encoder pulse. The count comes before the edges it
stamps. That steps still due at the old P are taken first, and their order, the order of the edges of several
eyes, and that these edges come before the steps the count makes due, are the model's
(notes/assumptions/5.md, 7.md, 31.md); the marks of what the count makes due are the model's own
(notes/assumptions/6.md). Where nothing stands due, a pulse with no edge and one with a single edge are given
whole. -/
def Obligations.EncoderPulseCountsAndFilters : Prop :=
  ∀ s : State, s.inReset = false →
    let run (t : State) (c : Instr) : State := match exec c t with
      | .next u => u
      | _ => t
    let arms : List Arm :=
      [.lane .l1, .lane .l2, .lane .l3, .lane .l4, .lane .l5, .lane .l6, .lane .l7, .lane .l8,
        .reject]
    let outstanding (t : State) : State :=
      let t := (t.capture.list.map fun _ => Instr.captureExpiry).foldl run t
      let t := (arms.map Instr.fire).foldl run t
      let t := (arms.map Instr.dwellEnd).foldl run t
      let t := (arms.map Instr.lastFireLapse).foldl run t
      let t := (t.divert.queue.map fun e => Instr.missedDivert e.tag).foldl run t
      let t := (t.divert.queue.map fun e => Instr.exit e.tag).foldl run t
      (arms.map Instr.laneJam).foldl run t
    let counted (t : State) : State :=
      { t with
        belt := { t.belt with phase := 0, p := t.belt.p + 1 }
        divert :=
          { t.divert with
            arms := t.divert.arms.map fun r =>
              { r with
                lapseDue :=
                  match r.lastFire with
                  | none => false
                  | some l => decide (t.params.armGap ≤ (t.belt.p + 1 - l).toNat) }
            eyes := t.divert.eyes.map fun r =>
              { r with
                jamDue :=
                  match r.blockStart with
                  | none => false
                  | some b => decide (t.params.jamLen ≤ (t.belt.p + 1 - b).toNat) } } }
    let uncounted : State := { s with belt := { s.belt with phase := s.belt.phase + 1 } }
    let filter (t : State) (e : Eye) : State :=
      if t.rawLevel e = (t.belt.eyes.get e).blocked then t
      else if t.params.eyeFilter ≤ (t.belt.eyes.get e).count + 1 then
        takeEdge e (t.rawLevel e)
          { t with
            belt :=
              { t.belt with eyes := t.belt.eyes.set e { blocked := t.rawLevel e, count := 0 } } }
      else
        { t with
          belt :=
            { t.belt with
              eyes := t.belt.eyes.set e
                { t.belt.eyes.get e with count := (t.belt.eyes.get e).count + 1 } } }
    exec .encoderPulse s = .next ((Eye.cap :: arms.map Eye.chute).foldl filter
      (if s.belt.phase + 1 = s.params.prescale then counted (outstanding s) else uncounted)) ∧
    ((s.belt.phase + 1 = s.params.prescale → NothingDue s) →
    let t : State := if s.belt.phase + 1 = s.params.prescale then counted s else uncounted
    ((∀ e, s.rawLevel e ≠ (s.belt.eyes.get e).blocked →
        (s.belt.eyes.get e).count + 1 < s.params.eyeFilter) →
      ∃ eyes : PerEye EyeFilter,
        (∀ e, eyes.get e =
          if s.rawLevel e = (s.belt.eyes.get e).blocked then s.belt.eyes.get e
          else { s.belt.eyes.get e with count := (s.belt.eyes.get e).count + 1 }) ∧
        exec .encoderPulse s = .next { t with belt := { t.belt with eyes := eyes } }) ∧
    ∀ e, s.rawLevel e ≠ (s.belt.eyes.get e).blocked →
      s.params.eyeFilter ≤ (s.belt.eyes.get e).count + 1 →
      (∀ d, d ≠ e → s.rawLevel d = (s.belt.eyes.get d).blocked) →
      exec .encoderPulse s = .next (takeEdge e (s.rawLevel e)
        { t with
          belt :=
            { t.belt with
              eyes := s.belt.eyes.set e { blocked := s.rawLevel e, count := 0 } } }))

/-- R45, R46, R48: what a change of an eye's input does at once. That a command naming the level that already
stands changes nothing is the model's (notes/assumptions/11.md). -/
def Obligations.EyeInputFollowsPolarityAndFilter : Prop :=
  ∀ (e : Eye) (high : Bool) (s : State),
    s.rawLevel e = (match (match e with
        | .cap => s.params.capturePolarity
        | .chute _ => s.params.lanePolarity) with
      | .blockedHigh => s.pins.eyes.get e
      | .blockedLow => !s.pins.eyes.get e) ∧
    (s.pins.eyes.get e = high → exec (.eyeInputChange e high) s = .next s) ∧
    (s.pins.eyes.get e ≠ high → s.inReset = false →
      let t : State := { s with pins := { s.pins with eyes := s.pins.eyes.set e high } }
      (t.rawLevel e = (s.belt.eyes.get e).blocked →
        exec (.eyeInputChange e high) s = .next
          { t with
            belt :=
              { s.belt with
                eyes := s.belt.eyes.set e { s.belt.eyes.get e with count := 0 } } }) ∧
      (t.rawLevel e ≠ (s.belt.eyes.get e).blocked → s.params.eyeFilter ≠ 0 →
        exec (.eyeInputChange e high) s = .next t) ∧
      (t.rawLevel e ≠ (s.belt.eyes.get e).blocked → s.params.eyeFilter = 0 →
        exec (.eyeInputChange e high) s = .next (takeEdge e (t.rawLevel e)
          { t with
            belt :=
              { s.belt with
                eyes := s.belt.eyes.set e { blocked := t.rawLevel e, count := 0 } } })))

/-- R50, R51, R52, R53, R154: the edges of EYE_CAP. -/
def Obligations.CaptureEyeEdgesMakeAndCloseCaptures : Prop :=
  ∀ s : State,
    (s.capture.list.length < 8 → takeEdge .cap true s =
      { s with
        capture :=
          { list := s.capture.list ++
              [{ tag := s.capture.nextTag, lead := s.belt.p, trail := none }]
            nextTag := s.capture.nextTag + 1 }
        status := { s.status with counters := s.status.counters.modify 0 bump }
        pause :=
          if s.pause.state = .held then
            { s.pause with state := .draining, inductHold := true, pauseAck := false }
          else s.pause }) ∧
    (8 ≤ s.capture.list.length → takeEdge .cap true s =
      count .overruns (report { kind := .captureOverrun, detail := 8 } s)) ∧
    (s.capture.list = [] → takeEdge .cap false s = s) ∧
    ∀ older c, s.capture.list = older ++ [c] →
      (c.trail = none → takeEdge .cap false s =
        { s with
          capture := { s.capture with list := older ++ [{ c with trail := some s.belt.p }] } }) ∧
      (c.trail ≠ none → takeEdge .cap false s = s)

/-- R54: INJECT_CAPTURE, its checks in their sequence and the capture it makes. -/
def Obligations.InjectCaptureIsCheckedAndMade : Prop :=
  ∀ (q : Request) (s : State), Accepts q s →
    (q.body.length ≠ 2 →
      exec (.injectCapture q) s = .next (withResponse 0x70 q .badLength [] s)) ∧
    (q.body.length = 2 → 1 ≤ s.params.lockLevel →
      exec (.injectCapture q) s = .next (withResponse 0x70 q .locked [] s)) ∧
    (q.body.length = 2 → s.params.lockLevel = 0 → 4095 < q.num 0 2 →
      exec (.injectCapture q) s = .next (withResponse 0x70 q .badField [] s)) ∧
    (q.body.length = 2 → s.params.lockLevel = 0 → q.num 0 2 ≤ 4095 →
      s.belt.eyes.cap.blocked = true →
      exec (.injectCapture q) s = .next (withResponse 0x70 q .busy [] s)) ∧
    (q.body.length = 2 → s.params.lockLevel = 0 → q.num 0 2 ≤ 4095 →
      s.belt.eyes.cap.blocked = false → 8 ≤ s.capture.list.length →
      exec (.injectCapture q) s = .next (withResponse 0x70 q .noSpace [] s)) ∧
    (q.body.length = 2 → s.params.lockLevel = 0 → q.num 0 2 ≤ 4095 →
      s.belt.eyes.cap.blocked = false → s.capture.list.length < 8 →
      exec (.injectCapture q) s = .next (withResponse 0x70 q .ok
        (toBytes 2 s.capture.nextTag.toNat ++ toBytes 2 s.belt.p.toNat ++
          toBytes 1 (s.capture.list.length + 1))
        { s with
          capture :=
            { list := s.capture.list ++
                [{ tag := s.capture.nextTag, lead := s.belt.p
                   trail := some (s.belt.p + BitVec.ofNat 16 (q.num 0 2)) }]
              nextTag := s.capture.nextTag + 1 }
          status := { s.status with counters := s.status.counters.modify 0 bump }
          pause :=
            if s.pause.state = .held then
              { s.pause with state := .draining, inductHold := true, pauseAck := false }
            else s.pause }))

/-- R55, R57, R58, R152: the expiry of the head, the sweep that begins a scan arrival, the orphans and the
pair. After a decision the drain condition is tested. That CAPTURE_EXPIRY changes nothing when it is not due is
the model's (notes/assumptions/4.md). -/
def Obligations.ScansPairWithTheHead : Prop :=
  ∀ s : State,
    let due (c : Capture) : Prop := s.params.pairMax < (s.belt.p - c.lead).toNat
    let without (rest : List Capture) : State :=
      { s with capture := { s.capture with list := rest } }
    let orphan (detail : Nat) (sc : Scan) : State := count .orphanScans (report
      { kind := .orphanScan, detail := detail, stock := sc.stock, carrier := sc.carrier } s)
    (s.inReset = false → ∀ c rest, s.capture.list = c :: rest → due c →
      exec .captureExpiry s = .next (drainTest
        (placementDecision { capture := c, scan := none } (without rest)))) ∧
    (s.inReset = false → (∀ c rest, s.capture.list = c :: rest → ¬ due c) →
      exec .captureExpiry s = .next s) ∧
    ∀ sc : Scan,
      (s.capture.list = [] → scanArrival sc s = orphan 0 sc) ∧
      ∀ c rest, s.capture.list = c :: rest →
        (due c → scanArrival sc s = scanArrival sc (drainTest
          (placementDecision { capture := c, scan := none } (without rest)))) ∧
        (¬ due c → (s.belt.p - c.lead).toNat < s.params.pairMin →
          scanArrival sc s = orphan 1 sc) ∧
        (¬ due c → s.params.pairMin ≤ (s.belt.p - c.lead).toNat →
          scanArrival sc s = drainTest (placementDecision { capture := c, scan := some sc }
            { without rest with
              status := { s.status with counters := s.status.counters.modify 2 bump } }))

/-! ### The Placement Engine -/

/-- R73 to R78: what a candidate is, and the seven tests of one. -/
def Obligations.CandidatesAndTheirSevenTests : Prop :=
  (∀ (s : State) (group : Nat) (c : Candidate), c ∈ candidates s group ↔
    c.order ∈ s.book.orders ∧ c.order.state = .opened ∧
      c.order.position = some (c.lane, c.position) ∧ s.divert.laneStates.get c.lane = .enabled ∧
      ∃ l, c.order.lines[c.line]? = some l ∧ l.reserved + l.placed < l.quantity ∧
        ((c.kind = .primary ∧ l.primary = group) ∨
          (c.kind = .substitute ∧ l.primary ≠ group ∧ l.substitute = some group))) ∧
  ∀ (s : State) (c : Candidate) (x : Subject),
    let entry : ClassEntry := (s.ranges.classes[c.order.cls]?).getD
      { shelfDays := 0, layerRule := true }
    let f : Pos := x.entry.lead + BitVec.ofNat 16 (s.params.laneDist.get c.lane)
    c.qualifies s x = true ↔
      refusalCause s x.scan.stock c.order.cls c.kind = none ∧
      c.order.reservedWeight + c.order.placedWeight + x.grams ≤ c.order.budget ∧
      (entry.layerRule = false ∨
        ((∀ m, c.order.placedLayer = some m → m ≤ x.product.layer) ∧
          ∀ l, l < 4 → c.order.layerCounts.getD l 0 ≠ 0 → l ≤ x.product.layer)) ∧
      (x.product.dated = false ∨ (x.scan.bestBefore ≠ 0xFFFF ∧
        c.order.dispatchDay + entry.shelfDays ≤ x.scan.bestBefore)) ∧
      (s.params.lead ≤ (f - s.belt.p).toNat ∧
        (f - s.belt.p).toNat ≤ s.params.laneDist.get c.lane) ∧
      ((s.wall.chutes.get c.lane).filter fun e => e.kind != .stray).length +
        (s.divert.queue.filter fun e =>
          e.dest.arm == some (.lane c.lane) && (e.isScheduled || e.isFired)).length <
        s.params.chuteCap.get c.lane ∧
      ((∀ e ∈ s.divert.queue, ∀ g, e.dest.arm = some (.lane c.lane) → e.state = .scheduled g →
          s.params.armGap ≤ min (g - f).toNat (f - g).toNat) ∧
        ∀ l, (s.divert.arms.get (.lane c.lane)).lastFire = some l →
          s.params.armGap ≤ (f - l).toNat)

/-- R81: the winner is the qualifying candidate with the highest score, and among equals the one with the lower
slot, then the lower line index. R79, R80: the score. -/
def Obligations.WinnerHasHighestScore : Prop :=
  (∀ (s : State) (group : Nat) (x : Subject), BookLaw s →
    (winner s x (candidates s group) = none ↔
      ∀ c ∈ candidates s group, c.qualifies s x = false) ∧
    ∀ c, winner s x (candidates s group) = some c ↔
      c ∈ candidates s group ∧ c.qualifies s x = true ∧
      ∀ d ∈ candidates s group, d.qualifies s x = true → d ≠ c →
        d.score s < c.score s ∨ (d.score s = c.score s ∧
          (c.order.slot < d.order.slot ∨
            (c.order.slot = d.order.slot ∧ c.line < d.line)))) ∧
  ∀ (s : State) (c : Candidate),
    let lag : Int := (c.order.dueWave : Int) - s.wave.counter
    let urgent : Int := if lag ≤ 0 then 1023 else max 0 (1023 - 64 * lag)
    let units : Nat := (c.order.lines.map fun l => l.reserved + l.placed).sum
    let total : Nat := (c.order.lines.map fun l => l.quantity).sum
    (c.score s : Int) = max 0 (urgent + (512 * (units + 1) / total : Nat) +
      (match c.kind with | .primary => 256 | .substitute => 0) -
      (min 1023 (s.params.laneDist.get c.lane / s.params.distDiv) : Nat))

/-- R63 to R72: the steps of a decision in their sequence, down to candidate formation. -/
def Obligations.DecisionStepsSettleInSequence : Prop :=
  (∀ (it : Item) (s : State),
    (it.scan = none ∨ ∃ sc, it.scan = some sc ∧ sc.status ≠ 0) →
    let noRead : State := count .noReads (report
      { kind := .noRead, detail := if it.scan = none then 0 else 1
        carrier := (it.scan.map (·.carrier)).getD 0 } s)
    let entry : Entry :=
      { tag := it.capture.tag, lead := it.capture.lead, exitAt := 0, stock := none
        carrier := none, group := none, layer := none
        weight :=
          match it.scan with
          | none => none
          | some sc =>
            if sc.weight = 0xFFFF then none else some { grams := sc.weight, estimated := false }
        dest := .recirculate .armsOff, state := .outbound .armsOff }
    (48 ≤ s.divert.queue.length → placementDecision it s =
      count .beltQueueFulls (report { kind := .beltQueueFull, detail := 48 } noRead)) ∧
    (s.divert.queue.length < 48 → s.divert.armsLive = false →
      placementDecision it s = appendEntry entry noRead) ∧
    (s.divert.queue.length < 48 → s.divert.armsLive = true →
      s.params.noReadAction = .recirculate → placementDecision it s = appendEntry
        { entry with dest := .recirculate .noRead, state := .outbound .noRead } noRead) ∧
    (s.divert.queue.length < 48 → s.divert.armsLive = true → s.params.noReadAction = .reject →
      placementDecision it s = rejectItem entry .noRead noRead)) ∧
  ∀ (c : Capture) (sc : Scan) (s : State), sc.status = 0 →
    let it : Item := { capture := c, scan := some sc }
    let entry : Entry :=
      { tag := c.tag, lead := c.lead, exitAt := 0, stock := some sc.stock
        carrier := some sc.carrier, group := none, layer := none
        weight :=
          if sc.weight = 0xFFFF then none else some { grams := sc.weight, estimated := false }
        dest := .recirculate .armsOff, state := .outbound .armsOff }
    let event (k : EventKind) (detail : Nat) (t : State) : State := report
      { kind := k, detail := detail, lane := if s.rejectFits c.lead then 9 else 0
        stock := sc.stock, carrier := sc.carrier } t
    let long : Prop := ∀ p, c.trail = some p → s.params.maxLen < (p - c.lead).toNat
    let passes : Option Nat :=
      if sc.carrier = 0 then none
      else ((s.recirc.find? fun r => r.carrier == sc.carrier).map (·.passes)).filter fun n =>
        decide (s.params.maxPasses ≤ n)
    (48 ≤ s.divert.queue.length → placementDecision it s = count .beltQueueFulls (report
      { kind := .beltQueueFull, detail := 48, stock := sc.stock, carrier := sc.carrier } s)) ∧
    (s.divert.queue.length < 48 → s.divert.armsLive = false →
      placementDecision it s = appendEntry entry s) ∧
    (s.divert.queue.length < 48 → s.divert.armsLive = true →
      (long → placementDecision it s = rejectItem entry .double
        (event .doubleItem (if c.trail = none then 0 else 1) (count .doubles s))) ∧
      (¬ long → lookup sc.stock s.catalogue = none →
        placementDecision it s = rejectItem entry .unknownItem
          (event .unknownItem 0 (count .unknownItems s))) ∧
      ∀ r, ¬ long → lookup sc.stock s.catalogue = some r →
        let known : Entry := { entry with group := some r.group, layer := some r.layer }
        let apart : Nat := ((sc.weight : Int) - r.nominal).natAbs
        (sc.weight ≠ 0xFFFF → r.nominal * r.tolerance / 100 < apart →
          placementDecision it s = rejectItem known .weightMismatch
            (event .weightMismatch (if r.nominal < sc.weight then 0 else 1)
              (count .weightMismatches s))) ∧
        (sc.weight ≠ 0xFFFF → apart ≤ r.nominal * r.tolerance / 100 →
          placementDecision it s = (match passes with
            | some n => rejectItem known .passLimit (event .passLimit n s)
            | none => placeOrRecirculate
                { entry := known, product := r, scan := sc, grams := sc.weight } s)) ∧
        (sc.weight = 0xFFFF →
          let guessed : Entry :=
            { known with weight := some { grams := r.nominal, estimated := true } }
          placementDecision it s = (match passes with
            | some n => rejectItem guessed .passLimit
                (event .passLimit n (count .weightEstimated s))
            | none => placeOrRecirculate
                { entry := guessed, product := r, scan := sc, grams := r.nominal }
                (count .weightEstimated s))))

/-- R82: a winner's item is reserved, appended SCHEDULED and counted. R83: without one the item is appended
OUTBOUND (UNPLACEABLE), behind the class refusal where every candidate failed the class test alone. -/
def Obligations.PlaceReservesElseRecirculates : Prop :=
  ∀ (x : Subject) (s : State),
    let cs := candidates s x.product.group
    let lost : Entry :=
      { x.entry with dest := .recirculate .unplaceable, state := .outbound .unplaceable }
    let refused : Prop := cs ≠ [] ∧ ∀ c ∈ cs,
      (refusalCause s x.scan.stock c.order.cls c.kind).isSome = true ∧ c.passesRest s x = true
    (∀ c, winner s x cs = some c → placeOrRecirculate x s = count .placements (appendEntry
      { x.entry with
        dest := .place c.lane c.position c.order.slot c.line c.kind
        state :=
          .scheduled (x.entry.lead + BitVec.ofNat 16 (s.params.laneDist.get c.lane)) }
      (reserve c.order.slot c.line x.grams x.product.layer s))) ∧
    (winner s x cs = none → ¬ refused → placeOrRecirculate x s = appendEntry lost s) ∧
    ∀ c cause, winner s x cs = none → refused → BookLaw s → c ∈ cs →
      (∀ d ∈ cs, d ≠ c → c.order.slot < d.order.slot ∨
        (c.order.slot = d.order.slot ∧ c.line < d.line)) →
      refusalCause s x.scan.stock c.order.cls c.kind = some cause →
      placeOrRecirculate x s = appendEntry lost (classRefusal c cause x.scan s)

/-- R84: a reject is scheduled where its fire position fits, else blocked. R89, R91, R98: an appended entry
takes its exit position; a SCHEDULED entry whose fire position is P is fired at once, and an OUTBOUND entry
of age EXIT_DIST or more exits at once. -/
def Obligations.RejectsAndEntriesAreAppended : Prop :=
  (∀ (e : Entry) (r : RejectReason) (s : State),
    let f : Pos := e.lead + BitVec.ofNat 16 s.params.rejectDist
    let fits : Prop := s.divert.rejectJammed = false ∧
      s.params.lead ≤ (f - s.belt.p).toNat ∧ (f - s.belt.p).toNat ≤ s.params.rejectDist ∧
      (∀ x ∈ s.divert.queue, ∀ g, x.dest.arm = some .reject → x.state = .scheduled g →
        s.params.armGap ≤ min (g - f).toNat (f - g).toNat) ∧
      ∀ l, (s.divert.arms.get .reject).lastFire = some l → s.params.armGap ≤ (f - l).toNat
    (s.rejectFits e.lead = true ↔ fits) ∧
    (fits → rejectItem e r s = appendEntry { e with dest := .reject r, state := .scheduled f }
      (count .rejectsDecided s)) ∧
    (¬ fits → rejectItem e r s =
      appendEntry { e with dest := .reject r, state := .outbound .rejectBlocked }
        (count .rejectsDecided s))) ∧
  ∀ (e : Entry) (s : State),
    let placed (x : Entry) : State :=
      { s with divert := { s.divert with queue := s.divert.queue ++ [x] } }
    let e' : Entry := { e with exitAt := e.lead + BitVec.ofNat 16 s.params.exitDist }
    (∀ f, e.state = .scheduled f → f ≠ s.belt.p → appendEntry e s = placed e') ∧
    (∀ a, e.state = .scheduled s.belt.p → e.dest.arm = some a →
      (∀ x ∈ s.divert.queue, x.dest.arm = some a → x.state ≠ .scheduled s.belt.p) →
      let fired : Entry :=
        { e' with
          state :=
            .fired s.belt.p (s.belt.p + BitVec.ofNat 16 s.params.confirmWindow) }
      appendEntry e s =
        { placed fired with
          divert :=
            { (placed fired).divert with
              arms := s.divert.arms.set a
                { lastFire := some s.belt.p
                  output := some (s.belt.p + BitVec.ofNat 16 s.params.armDwell)
                  lapseDue := false } }
          status := { s.status with counters := s.status.counters.modify 12 bump } }) ∧
    ∀ r, e.state = .outbound r →
      ((s.belt.p - e.lead).toNat < s.params.exitDist → appendEntry e s = placed e') ∧
      (s.params.exitDist ≤ (s.belt.p - e.lead).toNat → appendEntry e s =
        { s with
          status := { s.status with counters := s.status.counters.modify 11 bump }
          recirc :=
            match e.carrier with
            | none => s.recirc
            | some c =>
              if c ≠ 0 ∧ (r = .unplaceable ∨ r = .missed ∨ r = .rejectBlocked) then
                countPass c s.recirc
              else s.recirc })

/-! ### The Put Wall -/

/-- R118, R119, R120, R121, R127, and R21: a KEY frame with a good check, taken by a hunting receiver. -/
def Obligations.KeysTakeHeadsAndReleasePositions : Prop :=
  ∀ (lane position : Byte) (n : Lane) (s : State), s.inReset = false → s.wall.rx = .hunting →
    lane.toNat = laneNumber n →
    let key : Instr := .laneFrameReceived ([0xA6, lane, 0x02, position, 0x00] ++
      crcBytes [lane, 0x02, position, 0x00])
    let taken (rest : List ChuteEntry) : State :=
      { s with wall := { s.wall with chutes := s.wall.chutes.set n rest } }
    (∀ e rest p slot line, s.wall.chutes.get n = e :: rest → e.kind = .put p slot line →
      p ≤ 15 → position.toNat = p →
      exec key s = .next (relight s (count .puts (confirm slot line
        ((e.weight.map (·.grams)).getD 0) (e.layer.getD 0) (taken rest))))) ∧
    (∀ e rest, s.wall.chutes.get n = e :: rest → e.kind = .void ∨ e.kind = .stray →
      position = 0 → exec key s = .next (relight s (taken rest))) ∧
    (∀ o, 1 ≤ position.toNat → position.toNat ≤ 15 →
      s.headTarget n ≠ some position.toNat → s.book.boundAt n position.toNat = some o →
      o.state = .complete ∨ o.state = .cancelled →
      let told : State := report
        { kind := .orderReleased
          detail := if o.state = .cancelled then 2 else if o.short then 1 else 0
          lane := laneNumber n, position := some position.toNat, order := o.number } s
      exec key s = .next (relight s (runBinder (countRelease
        { told with
          book :=
            { orders := s.book.orders.filter fun x => x.slot != o.slot
              freeLines := s.book.freeLines + o.lines.length
              queued := s.book.queued.filter fun i => i != o.slot } })))) ∧
    (position.toNat ≤ 15 → s.headTarget n ≠ some position.toNat →
      (position = 0 ∨ ∀ o, s.book.boundAt n position.toNat = some o →
        o.state ≠ .complete ∧ o.state ≠ .cancelled) →
      exec key s = .next (count .wrongKeys (report
        { kind := .wrongKey, detail := (s.headTarget n).getD 0xFF, lane := laneNumber n
          position := some position.toNat
          order :=
            if position = 0 then 0
            else ((s.book.boundAt n position.toNat).map (·.number)).getD 0
          stock := ((s.wall.chutes.get n).head?.bind (·.stock)).getD 0
          carrier := ((s.wall.chutes.get n).head?.bind (·.carrier)).getD 0 } s))) ∧
    (position = 0xFF → ∃ w : PutWall, exec key s = .next (beginLight { s with wall := w }) ∧
      (∀ i, i ∈ w.marks ↔ i < 128 ∧ (i ∈ s.wall.marks ∨ i / 16 + 1 = laneNumber n)) ∧
      w = { s.wall with marks := w.marks })

/-- R116: the light of a position, and that at most one position of a lane shows PUT. R117, R123, R124: the
marks after an event, the send that begins at an event that finds the transmitter idle, and the frame sent
next. That LIGHT_FRAME_SENT while idle changes nothing is the model's (notes/assumptions/4.md). -/
def Obligations.LightsAreDerivedMarkedAndSent : Prop :=
  (∀ (n : Lane) (p : Nat) (s : State),
    (s.headTarget n = some p → light s n p = .put) ∧
    (s.headTarget n ≠ some p →
      (p = 0 → light s n p = .off) ∧
      (∀ o, p ≠ 0 → s.book.boundAt n p = some o →
        (o.state = .complete → light s n p = .close) ∧
        (o.state = .cancelled → light s n p = .clear) ∧
        (o.state ≠ .complete → o.state ≠ .cancelled → light s n p = .off)) ∧
      (s.book.boundAt n p = none → light s n p = .off)) ∧
    ∀ r, light s n p = .put → light s n r = .put → p = r) ∧
  (∀ before s : State,
    (s.wall.tx ≠ none → ∀ i, i < 128 →
      (i ∈ (relight before s).wall.marks ↔
        i ∈ s.wall.marks ∨ lightAt s i ≠ lightAt before i)) ∧
    ((∀ i, i < 128 → lightAt s i = lightAt before i) → relight before s = s) ∧
    (let marked (i : Nat) : Prop := i ∈ s.wall.marks ∨ lightAt s i ≠ lightAt before i;
      s.wall.tx = none → (∃ i, i < 128 ∧ lightAt s i ≠ lightAt before i) →
      ∀ k, k < 128 → marked ((s.wall.pointer + 1 + k) % 128) →
        (∀ j, j < k → ¬ marked ((s.wall.pointer + 1 + j) % 128)) →
        let i := (s.wall.pointer + 1 + k) % 128
        ∃ marks : List Nat, (∀ j, j ∈ marks ↔ j < 128 ∧ j ≠ i ∧ marked j) ∧
          relight before s =
            { s with
              wall :=
                { s.wall with
                  marks := marks
                  pointer := i
                  tx := some
                    { lane := laneOfIndex i, position := i % 16
                      value := light s (laneOfIndex i) (i % 16) } } }) ∧
    ∃ w : PutWall, relight before s = { s with wall := w } ∧
      w.chutes = s.wall.chutes ∧ w.rx = s.wall.rx) ∧
  ∀ s : State, s.inReset = false →
    (s.wall.tx = none → exec .lightFrameSent s = .next s) ∧
    (s.wall.tx ≠ none → (∀ i ∈ s.wall.marks, 128 ≤ i) → exec .lightFrameSent s = .next
      { s with wall := { s.wall with tx := none } }) ∧
    ∀ k, s.wall.tx ≠ none → k < 128 → (s.wall.pointer + 1 + k) % 128 ∈ s.wall.marks →
      (∀ j, j < k → (s.wall.pointer + 1 + j) % 128 ∉ s.wall.marks) →
      let i := (s.wall.pointer + 1 + k) % 128
      exec .lightFrameSent s = .next
        { s with
          wall :=
            { s.wall with
              marks := s.wall.marks.filter fun j => j != i
              pointer := i
              tx := some
                { lane := laneOfIndex i, position := i % 16
                  value := light s (laneOfIndex i) (i % 16) } } }

/-! ### Line stop and pause -/

/-- R147, R148, R149, R151, R153: PAUSE, RESUME and the PAUSE_REQ input. That a command naming the level that
already stands changes nothing, and PAUSE_WITHDRAWN before the latched advance, are the model's
(notes/assumptions/11.md, notes/assumptions/14.md). -/
def Obligations.PauseFollowsItsSources : Prop :=
  (∀ (q : Request) (s : State), Accepts q s → q.body = [] →
    let flagged (b : Bool) : State := { s with pause := { s.pause with controlPause := b } }
    (s.pause.requestAsserted = true ∨ s.pause.controlPause = true ∨ s.pause.state ≠ .running →
      exec (.pause q) s = .next
        (withResponse 0x60 q .ok (toBytes 1 (codeOfPause s.pause.state)) (flagged true))) ∧
    (s.pause.requestAsserted = false → s.pause.controlPause = false →
      s.pause.state = .running →
      let t := drainTest
        { s with
          pause :=
            { s.pause with
              controlPause := true, state := .draining, inductHold := true, pauseAck := false } }
      exec (.pause q) s = .next (withResponse 0x60 q .ok (toBytes 1 (codeOfPause t.pause.state)) t)) ∧
    (s.pause.requestAsserted = true ∨ s.pause.controlPause = false ∨ s.pause.state = .running →
      exec (.resume q) s = .next (withResponse 0x61 q .ok
        (toBytes 1 (codeOfPause s.pause.state) ++ toBytes 1 (flagNat s.pause.requestAsserted))
        (flagged false))) ∧
    (s.pause.requestAsserted = false → s.pause.controlPause = true →
      let moved : State :=
        { s with
          pause :=
            { s.pause with
              controlPause := false, state := .running, inductHold := false
              pauseAck := false } }
      (s.pause.state = .held → exec (.resume q) s =
        .next (withResponse 0x61 q .ok [0x00, 0x00] (performLatched moved))) ∧
      (s.pause.state = .draining → exec (.resume q) s =
        .next (withResponse 0x61 q .ok [0x00, 0x00]
          (performLatched (report { kind := .pauseWithdrawn, detail := 0 } moved)))))) ∧
  ∀ s : State,
    let input (b : Bool) : State :=
      { s with
        pins := { s.pins with pauseReq := b }, pause := { s.pause with requestAsserted := b } }
    (s.pins.pauseReq = true → exec .pauseReqAssert s = .next s) ∧
    (s.pins.pauseReq = false → exec .pauseReqRelease s = .next s) ∧
    (s.inReset = false → s.pins.pauseReq = false → s.pause.requestAsserted = false →
      (s.pause.controlPause = true ∨ s.pause.state ≠ .running →
        exec .pauseReqAssert s = .next (input true)) ∧
      (s.pause.controlPause = false → s.pause.state = .running →
        exec .pauseReqAssert s = .next (drainTest
          { input true with
            pause :=
              { s.pause with
                requestAsserted := true, state := .draining, inductHold := true
                pauseAck := false } }))) ∧
    (s.inReset = false → s.pins.pauseReq = true → s.pause.requestAsserted = true →
      (s.pause.controlPause = true ∨ s.pause.state = .running →
        exec .pauseReqRelease s = .next (input false)) ∧
      (s.pause.controlPause = false →
        let moved : State :=
          { input false with
            pause :=
              { s.pause with
                requestAsserted := false, state := .running, inductHold := false
                pauseAck := false } }
        (s.pause.state = .held → exec .pauseReqRelease s = .next (performLatched moved)) ∧
        (s.pause.state = .draining → exec .pauseReqRelease s = .next (performLatched
          (report { kind := .pauseWithdrawn, detail := 1 } moved)))))

/-- R152: the drain test. R138, R140: the release count, the automatic trigger and the latched advance. -/
def Obligations.DrainGrantsAndLatchesArePerformed : Prop :=
  ∀ s : State,
    (s.pause.state = .draining → s.capture.list = [] → s.divert.queue = [] →
      drainTest s = report
        { kind := .pauseGranted
          detail := match s.pause.controlPause, s.pause.requestAsserted with
            | true, false => 1
            | false, true => 2
            | _, _ => 3 }
        { s with
          pause := { s.pause with state := .held, inductHold := true, pauseAck := true } }) ∧
    (s.pause.state ≠ .draining ∨ s.capture.list ≠ [] ∨ s.divert.queue ≠ [] →
      drainTest s = s) ∧
    performLatched s = (match s.wave.latch with
      | .notHeld => s
      | .requested => advance 2 s
      | .automatic => advance 3 s) ∧
    let counted : State :=
      { s with
        wave :=
          { s.wave with
            releases :=
              if s.wave.releases < 65535 then s.wave.releases + 1 else s.wave.releases } }
    (s.params.autoWave = 0 ∨ counted.wave.releases < s.params.autoWave ∨
      s.wave.latch ≠ .notHeld → countRelease s = counted) ∧
    (s.params.autoWave ≠ 0 → s.params.autoWave ≤ counted.wave.releases →
      s.wave.latch = .notHeld →
      countRelease s =
        if s.pause.state = .held then
          { counted with wave := { counted.wave with latch := .automatic } }
        else advance 1 counted)

/-- R143, R144, R145: the LINE_STOP input. That a command naming the level that already stands changes nothing,
and LINE_STOP reported after the clearing, are the model's (notes/assumptions/11.md,
notes/assumptions/14.md). -/
def Obligations.LineStopClearsArmsLive : Prop :=
  ∀ s : State,
    let input (b : Bool) : State :=
      { s with
        pins := { s.pins with lineStop := b }, pause := { s.pause with stopAsserted := b } }
    (s.pins.lineStop = true → exec .lineStopAssert s = .next s) ∧
    (s.pins.lineStop = false → exec .lineStopRelease s = .next s) ∧
    (s.inReset = false → s.pins.lineStop = false →
      (s.divert.armsLive = false → exec .lineStopAssert s = .next
        (report { kind := .lineStop, detail := 0 } (input true))) ∧
      (s.divert.armsLive = true → exec .lineStopAssert s = .next
        (report { kind := .lineStop, detail := 1 } (relight s
          ((s.divert.queue.filter Entry.isScheduled).foldl (fun t e => releaseEntry e t)
            { input true with
              divert :=
                { s.divert with
                  armsLive := false
                  arms := s.divert.arms.map fun r => { r with output := none }
                  queue := s.divert.queue.map fun e =>
                    if e.isScheduled then { e with state := .outbound .armsOff } else e } }))))) ∧
    (s.inReset = false → s.pins.lineStop = true →
      (s.params.autoRearm = false → exec .lineStopRelease s = .next
        (report { kind := .lineRelease, detail := 0 } (input false))) ∧
      (s.params.autoRearm = true → geometryConsistent s.params = true →
        exec .lineStopRelease s = .next (report { kind := .lineRelease, detail := 1 }
          { input false with divert := { s.divert with armsLive := true } })) ∧
      (s.params.autoRearm = true → geometryConsistent s.params = false →
        exec .lineStopRelease s = .next
          (report { kind := .lineRelease, detail := 2 } (input false))))

/-- R156, R157, R25, R61, R111, R128: LINE_CLEAR, what it empties and what it keeps. Its releases leave no
reservation; a SHORTING order that had one completes, every other order keeps its state, and the flags, the
counters and the pending marks already set stand, but for what the completions and the grant report and the
lights they change. The order of the releases is the model's (notes/assumptions/14.md). -/
def Obligations.LineClearEmptiesLists : Prop :=
  ∀ (q : Request) (s : State), Accepts q s → q.body = [] →
    (s.pause.stopAsserted = false → s.pause.state ≠ .held →
      exec (.lineClear q) s = .next (withResponse 0x62 q .wrongState [] s)) ∧
    (s.pause.stopAsserted = true ∨ s.pause.state = .held →
      let emptied : State :=
        { s with
          capture := { s.capture with list := [] }
          divert :=
            { s.divert with
              queue := []
              arms := PerArm.all { lastFire := none, output := none, lapseDue := false } }
          wall := { s.wall with chutes := PerLane.all [] } }
      let offBelt : State := (s.divert.queue.filter Entry.holdsReservation).foldl
        (fun t e => releaseEntry e t) emptied
      let offWall : State := s.chuteEntries.foldl (fun t e =>
        match e.kind with
        | .put _ slot line =>
          release slot line ((e.weight.map (·.grams)).getD 0) (e.layer.getD 0) t
        | _ => t) offBelt
      let t : State := drainTest (relight s offWall)
      exec (.lineClear q) s = .next (withResponse 0x62 q .ok
        (toBytes 1 s.capture.list.length ++ toBytes 1 s.divert.queue.length ++
          toBytes 1 s.chuteEntries.length ++
          toBytes 1 ((s.divert.queue.filter Entry.holdsReservation).length +
            (s.chuteEntries.filter ChuteEntry.isPut).length) ++
          toBytes 1 (codeOfPause t.pause.state)) t) ∧
      t.capture = emptied.capture ∧ t.divert = emptied.divert ∧
      (∀ n, t.wall.chutes.get n = []) ∧ t.wall.rx = s.wall.rx ∧
      t.wall = (relight s { s with book := t.book, wall := emptied.wall }).wall ∧
      (s.wall.tx ≠ none → t.wall.pointer = s.wall.pointer ∧ t.wall.tx = s.wall.tx ∧
        ∀ i, i < 128 → (i ∈ t.wall.marks ↔ i ∈ s.wall.marks ∨ lightAt t i ≠ lightAt s i)) ∧
      t.pause = (if s.pause.state = .draining then
        { s.pause with state := .held, inductHold := true, pauseAck := true } else s.pause) ∧
      t.pending = s.pending ∧ t.inReset = s.inReset ∧ t.pins = s.pins ∧ t.belt = s.belt ∧
      t.catalogue = s.catalogue ∧ t.ranges = s.ranges ∧ t.recirc = s.recirc ∧
      t.wave = s.wave ∧ t.params = s.params ∧
      (BookLaw s → AccountsLaw s →
        let closes (o : Order) : Bool := o.state == .shorting && claims s o.slot != []
        t.book =
          { s.book with
            orders := s.book.orders.map fun o =>
              { o with
                lines := o.lines.map fun l => { l with reserved := 0 }
                reservedWeight := 0
                layerCounts := [0, 0, 0, 0]
                state := if closes o then .complete else o.state
                short := closes o || o.short } } ∧
        t.status.counters = (s.book.orders.filter closes).foldl
          (fun cs _ => cs.modify 17 bump) s.status.counters ∧
        t.status.flags = s.status.flags |||
          (if s.book.orders.any closes then 1#32 <<< 18 else 0) |||
          (if s.pause.state = .draining then 1#32 <<< 16 else 0)))

/-! ### What every step keeps -/

/-- Every law holds at the reset state. -/
def Obligations.LawsHoldAtReset : Prop :=
  LinkLaw State.reset ∧ StatusLaw State.reset ∧ WallLaw State.reset ∧ PauseLaw State.reset ∧
    ArmsLaw State.reset ∧ CatalogueLaw State.reset ∧ ParamsLaw State.reset ∧
    EyesLaw State.reset ∧ BookLaw State.reset ∧ AccountsLaw State.reset ∧
    ChuteLaw State.reset ∧ CaptureLaw State.reset ∧ RecircLaw State.reset ∧
    ScheduleLaw State.reset

/-- R168, R171, R172, R175, R123: every step keeps the laws of the transmit queue, of the flags and counters,
and of the lane link's transmitter. -/
def Obligations.LinkStatusAndWallLawsAreKept : Prop :=
  ∀ s t : State, step s = .next t →
    (LinkLaw s → LinkLaw t) ∧ (StatusLaw s → StatusLaw t) ∧ (WallLaw s → WallLaw t)

/-- R150, R147, R143, R107, R109, R90, R91: every step keeps the law of the pause state and its outputs, the law
of ARMS_LIVE, and the law of the arms' schedules. -/
def Obligations.PauseAndArmsLawsAreKept : Prop :=
  ∀ s t : State, step s = .next t →
    (PauseLaw s → PauseLaw t) ∧ (ArmsLaw s → ArmsLaw t) ∧
    (ParamsLaw s → ArmsLaw s → ScheduleLaw s → ScheduleLaw t)

/-- R26: every step keeps the law of the product table. -/
def Obligations.CatalogueLawIsKept : Prop :=
  ∀ s t : State, CatalogueLaw s → step s = .next t → CatalogueLaw t

/-- R180, R181, R183, R42, R46, R103, R106: every step keeps the ranges of the parameters, and the law of the
eyes and their block starts. That MAX_LEN may be 0 is the model's reading (notes/assumptions/16.md). -/
def Obligations.ParameterAndEyeLawsAreKept : Prop :=
  ∀ s t : State, step s = .next t → (ParamsLaw s → ParamsLaw t) ∧ (EyesLaw s → EyesLaw t)

/-- R1, R2, R6, R8: every step keeps the law of the Order Book. -/
def Obligations.BookLawIsKept : Prop :=
  ∀ s t : State, BookLaw s → step s = .next t → BookLaw t

/-- R10, R12, R15: every step keeps the reservation accounts in agreement with the items that hold them, and
within the quantities and the budgets. -/
def Obligations.AccountsLawIsKept : Prop :=
  ∀ s t : State, BookLaw s → CatalogueLaw s → AccountsLaw s → step s = .next t → AccountsLaw t

/-- R99, R112, R49, R55, R89, R86: every step keeps the bounds of the chutes, of the capture list and the belt
queue, and of the recirculation table. -/
def Obligations.ListLawsAreKept : Prop :=
  ∀ s t : State, ParamsLaw s → step s = .next t →
    (ChuteLaw s → ChuteLaw t) ∧ (CaptureLaw s → CaptureLaw t) ∧ (RecircLaw s → RecircLaw t)
end

