-- ==== Sys2Proof/Laws/State.lean ====
section
/-! SUPPORT. One lemma per field per update of one block, so that no proof unfolds a record update. -/

namespace Sys2Proof.Machine

section
variable (s : State) (f : Pins → Pins)

@[simp] theorem onPins_pending : (s.onPins f).pending = s.pending := rfl
@[simp] theorem onPins_inReset : (s.onPins f).inReset = s.inReset := rfl
@[simp] theorem onPins_pins : (s.onPins f).pins = f s.pins := rfl
@[simp] theorem onPins_link : (s.onPins f).link = s.link := rfl
@[simp] theorem onPins_belt : (s.onPins f).belt = s.belt := rfl
@[simp] theorem onPins_capture : (s.onPins f).capture = s.capture := rfl
@[simp] theorem onPins_catalogue : (s.onPins f).catalogue = s.catalogue := rfl
@[simp] theorem onPins_ranges : (s.onPins f).ranges = s.ranges := rfl
@[simp] theorem onPins_book : (s.onPins f).book = s.book := rfl
@[simp] theorem onPins_recirc : (s.onPins f).recirc = s.recirc := rfl
@[simp] theorem onPins_divert : (s.onPins f).divert = s.divert := rfl
@[simp] theorem onPins_wall : (s.onPins f).wall = s.wall := rfl
@[simp] theorem onPins_wave : (s.onPins f).wave = s.wave := rfl
@[simp] theorem onPins_pause : (s.onPins f).pause = s.pause := rfl
@[simp] theorem onPins_status : (s.onPins f).status = s.status := rfl
@[simp] theorem onPins_params : (s.onPins f).params = s.params := rfl
@[simp] theorem onPins_p : (s.onPins f).p = s.p := rfl

end

section
variable (s : State) (f : IntakeLink → IntakeLink)

@[simp] theorem onLink_pending : (s.onLink f).pending = s.pending := rfl
@[simp] theorem onLink_inReset : (s.onLink f).inReset = s.inReset := rfl
@[simp] theorem onLink_pins : (s.onLink f).pins = s.pins := rfl
@[simp] theorem onLink_link : (s.onLink f).link = f s.link := rfl
@[simp] theorem onLink_belt : (s.onLink f).belt = s.belt := rfl
@[simp] theorem onLink_capture : (s.onLink f).capture = s.capture := rfl
@[simp] theorem onLink_catalogue : (s.onLink f).catalogue = s.catalogue := rfl
@[simp] theorem onLink_ranges : (s.onLink f).ranges = s.ranges := rfl
@[simp] theorem onLink_book : (s.onLink f).book = s.book := rfl
@[simp] theorem onLink_recirc : (s.onLink f).recirc = s.recirc := rfl
@[simp] theorem onLink_divert : (s.onLink f).divert = s.divert := rfl
@[simp] theorem onLink_wall : (s.onLink f).wall = s.wall := rfl
@[simp] theorem onLink_wave : (s.onLink f).wave = s.wave := rfl
@[simp] theorem onLink_pause : (s.onLink f).pause = s.pause := rfl
@[simp] theorem onLink_status : (s.onLink f).status = s.status := rfl
@[simp] theorem onLink_params : (s.onLink f).params = s.params := rfl
@[simp] theorem onLink_p : (s.onLink f).p = s.p := rfl

end

section
variable (s : State) (f : BeltPosition → BeltPosition)

@[simp] theorem onBelt_pending : (s.onBelt f).pending = s.pending := rfl
@[simp] theorem onBelt_inReset : (s.onBelt f).inReset = s.inReset := rfl
@[simp] theorem onBelt_pins : (s.onBelt f).pins = s.pins := rfl
@[simp] theorem onBelt_link : (s.onBelt f).link = s.link := rfl
@[simp] theorem onBelt_belt : (s.onBelt f).belt = f s.belt := rfl
@[simp] theorem onBelt_capture : (s.onBelt f).capture = s.capture := rfl
@[simp] theorem onBelt_catalogue : (s.onBelt f).catalogue = s.catalogue := rfl
@[simp] theorem onBelt_ranges : (s.onBelt f).ranges = s.ranges := rfl
@[simp] theorem onBelt_book : (s.onBelt f).book = s.book := rfl
@[simp] theorem onBelt_recirc : (s.onBelt f).recirc = s.recirc := rfl
@[simp] theorem onBelt_divert : (s.onBelt f).divert = s.divert := rfl
@[simp] theorem onBelt_wall : (s.onBelt f).wall = s.wall := rfl
@[simp] theorem onBelt_wave : (s.onBelt f).wave = s.wave := rfl
@[simp] theorem onBelt_pause : (s.onBelt f).pause = s.pause := rfl
@[simp] theorem onBelt_status : (s.onBelt f).status = s.status := rfl
@[simp] theorem onBelt_params : (s.onBelt f).params = s.params := rfl
@[simp] theorem onBelt_p : (s.onBelt f).p = (f s.belt).p := rfl

end

section
variable (s : State) (f : CaptureUnit → CaptureUnit)

@[simp] theorem onCapture_pending : (s.onCapture f).pending = s.pending := rfl
@[simp] theorem onCapture_inReset : (s.onCapture f).inReset = s.inReset := rfl
@[simp] theorem onCapture_pins : (s.onCapture f).pins = s.pins := rfl
@[simp] theorem onCapture_link : (s.onCapture f).link = s.link := rfl
@[simp] theorem onCapture_belt : (s.onCapture f).belt = s.belt := rfl
@[simp] theorem onCapture_capture : (s.onCapture f).capture = f s.capture := rfl
@[simp] theorem onCapture_catalogue : (s.onCapture f).catalogue = s.catalogue := rfl
@[simp] theorem onCapture_ranges : (s.onCapture f).ranges = s.ranges := rfl
@[simp] theorem onCapture_book : (s.onCapture f).book = s.book := rfl
@[simp] theorem onCapture_recirc : (s.onCapture f).recirc = s.recirc := rfl
@[simp] theorem onCapture_divert : (s.onCapture f).divert = s.divert := rfl
@[simp] theorem onCapture_wall : (s.onCapture f).wall = s.wall := rfl
@[simp] theorem onCapture_wave : (s.onCapture f).wave = s.wave := rfl
@[simp] theorem onCapture_pause : (s.onCapture f).pause = s.pause := rfl
@[simp] theorem onCapture_status : (s.onCapture f).status = s.status := rfl
@[simp] theorem onCapture_params : (s.onCapture f).params = s.params := rfl
@[simp] theorem onCapture_p : (s.onCapture f).p = s.p := rfl

end

section
variable (s : State) (f : List Product → List Product)

@[simp] theorem onCatalogue_pending : (s.onCatalogue f).pending = s.pending := rfl
@[simp] theorem onCatalogue_inReset : (s.onCatalogue f).inReset = s.inReset := rfl
@[simp] theorem onCatalogue_pins : (s.onCatalogue f).pins = s.pins := rfl
@[simp] theorem onCatalogue_link : (s.onCatalogue f).link = s.link := rfl
@[simp] theorem onCatalogue_belt : (s.onCatalogue f).belt = s.belt := rfl
@[simp] theorem onCatalogue_capture : (s.onCatalogue f).capture = s.capture := rfl
@[simp] theorem onCatalogue_catalogue : (s.onCatalogue f).catalogue = f s.catalogue := rfl
@[simp] theorem onCatalogue_ranges : (s.onCatalogue f).ranges = s.ranges := rfl
@[simp] theorem onCatalogue_book : (s.onCatalogue f).book = s.book := rfl
@[simp] theorem onCatalogue_recirc : (s.onCatalogue f).recirc = s.recirc := rfl
@[simp] theorem onCatalogue_divert : (s.onCatalogue f).divert = s.divert := rfl
@[simp] theorem onCatalogue_wall : (s.onCatalogue f).wall = s.wall := rfl
@[simp] theorem onCatalogue_wave : (s.onCatalogue f).wave = s.wave := rfl
@[simp] theorem onCatalogue_pause : (s.onCatalogue f).pause = s.pause := rfl
@[simp] theorem onCatalogue_status : (s.onCatalogue f).status = s.status := rfl
@[simp] theorem onCatalogue_params : (s.onCatalogue f).params = s.params := rfl
@[simp] theorem onCatalogue_p : (s.onCatalogue f).p = s.p := rfl

end

section
variable (s : State) (f : ClassRangeUnit → ClassRangeUnit)

@[simp] theorem onRanges_pending : (s.onRanges f).pending = s.pending := rfl
@[simp] theorem onRanges_inReset : (s.onRanges f).inReset = s.inReset := rfl
@[simp] theorem onRanges_pins : (s.onRanges f).pins = s.pins := rfl
@[simp] theorem onRanges_link : (s.onRanges f).link = s.link := rfl
@[simp] theorem onRanges_belt : (s.onRanges f).belt = s.belt := rfl
@[simp] theorem onRanges_capture : (s.onRanges f).capture = s.capture := rfl
@[simp] theorem onRanges_catalogue : (s.onRanges f).catalogue = s.catalogue := rfl
@[simp] theorem onRanges_ranges : (s.onRanges f).ranges = f s.ranges := rfl
@[simp] theorem onRanges_book : (s.onRanges f).book = s.book := rfl
@[simp] theorem onRanges_recirc : (s.onRanges f).recirc = s.recirc := rfl
@[simp] theorem onRanges_divert : (s.onRanges f).divert = s.divert := rfl
@[simp] theorem onRanges_wall : (s.onRanges f).wall = s.wall := rfl
@[simp] theorem onRanges_wave : (s.onRanges f).wave = s.wave := rfl
@[simp] theorem onRanges_pause : (s.onRanges f).pause = s.pause := rfl
@[simp] theorem onRanges_status : (s.onRanges f).status = s.status := rfl
@[simp] theorem onRanges_params : (s.onRanges f).params = s.params := rfl
@[simp] theorem onRanges_p : (s.onRanges f).p = s.p := rfl

end

section
variable (s : State) (f : OrderBook → OrderBook)

@[simp] theorem onBook_pending : (s.onBook f).pending = s.pending := rfl
@[simp] theorem onBook_inReset : (s.onBook f).inReset = s.inReset := rfl
@[simp] theorem onBook_pins : (s.onBook f).pins = s.pins := rfl
@[simp] theorem onBook_link : (s.onBook f).link = s.link := rfl
@[simp] theorem onBook_belt : (s.onBook f).belt = s.belt := rfl
@[simp] theorem onBook_capture : (s.onBook f).capture = s.capture := rfl
@[simp] theorem onBook_catalogue : (s.onBook f).catalogue = s.catalogue := rfl
@[simp] theorem onBook_ranges : (s.onBook f).ranges = s.ranges := rfl
@[simp] theorem onBook_book : (s.onBook f).book = f s.book := rfl
@[simp] theorem onBook_recirc : (s.onBook f).recirc = s.recirc := rfl
@[simp] theorem onBook_divert : (s.onBook f).divert = s.divert := rfl
@[simp] theorem onBook_wall : (s.onBook f).wall = s.wall := rfl
@[simp] theorem onBook_wave : (s.onBook f).wave = s.wave := rfl
@[simp] theorem onBook_pause : (s.onBook f).pause = s.pause := rfl
@[simp] theorem onBook_status : (s.onBook f).status = s.status := rfl
@[simp] theorem onBook_params : (s.onBook f).params = s.params := rfl
@[simp] theorem onBook_p : (s.onBook f).p = s.p := rfl

end

section
variable (s : State) (f : List Recirc → List Recirc)

@[simp] theorem onRecirc_pending : (s.onRecirc f).pending = s.pending := rfl
@[simp] theorem onRecirc_inReset : (s.onRecirc f).inReset = s.inReset := rfl
@[simp] theorem onRecirc_pins : (s.onRecirc f).pins = s.pins := rfl
@[simp] theorem onRecirc_link : (s.onRecirc f).link = s.link := rfl
@[simp] theorem onRecirc_belt : (s.onRecirc f).belt = s.belt := rfl
@[simp] theorem onRecirc_capture : (s.onRecirc f).capture = s.capture := rfl
@[simp] theorem onRecirc_catalogue : (s.onRecirc f).catalogue = s.catalogue := rfl
@[simp] theorem onRecirc_ranges : (s.onRecirc f).ranges = s.ranges := rfl
@[simp] theorem onRecirc_book : (s.onRecirc f).book = s.book := rfl
@[simp] theorem onRecirc_recirc : (s.onRecirc f).recirc = f s.recirc := rfl
@[simp] theorem onRecirc_divert : (s.onRecirc f).divert = s.divert := rfl
@[simp] theorem onRecirc_wall : (s.onRecirc f).wall = s.wall := rfl
@[simp] theorem onRecirc_wave : (s.onRecirc f).wave = s.wave := rfl
@[simp] theorem onRecirc_pause : (s.onRecirc f).pause = s.pause := rfl
@[simp] theorem onRecirc_status : (s.onRecirc f).status = s.status := rfl
@[simp] theorem onRecirc_params : (s.onRecirc f).params = s.params := rfl
@[simp] theorem onRecirc_p : (s.onRecirc f).p = s.p := rfl

end

section
variable (s : State) (f : DivertScheduler → DivertScheduler)

@[simp] theorem onDivert_pending : (s.onDivert f).pending = s.pending := rfl
@[simp] theorem onDivert_inReset : (s.onDivert f).inReset = s.inReset := rfl
@[simp] theorem onDivert_pins : (s.onDivert f).pins = s.pins := rfl
@[simp] theorem onDivert_link : (s.onDivert f).link = s.link := rfl
@[simp] theorem onDivert_belt : (s.onDivert f).belt = s.belt := rfl
@[simp] theorem onDivert_capture : (s.onDivert f).capture = s.capture := rfl
@[simp] theorem onDivert_catalogue : (s.onDivert f).catalogue = s.catalogue := rfl
@[simp] theorem onDivert_ranges : (s.onDivert f).ranges = s.ranges := rfl
@[simp] theorem onDivert_book : (s.onDivert f).book = s.book := rfl
@[simp] theorem onDivert_recirc : (s.onDivert f).recirc = s.recirc := rfl
@[simp] theorem onDivert_divert : (s.onDivert f).divert = f s.divert := rfl
@[simp] theorem onDivert_wall : (s.onDivert f).wall = s.wall := rfl
@[simp] theorem onDivert_wave : (s.onDivert f).wave = s.wave := rfl
@[simp] theorem onDivert_pause : (s.onDivert f).pause = s.pause := rfl
@[simp] theorem onDivert_status : (s.onDivert f).status = s.status := rfl
@[simp] theorem onDivert_params : (s.onDivert f).params = s.params := rfl
@[simp] theorem onDivert_p : (s.onDivert f).p = s.p := rfl

end

section
variable (s : State) (f : PutWall → PutWall)

@[simp] theorem onWall_pending : (s.onWall f).pending = s.pending := rfl
@[simp] theorem onWall_inReset : (s.onWall f).inReset = s.inReset := rfl
@[simp] theorem onWall_pins : (s.onWall f).pins = s.pins := rfl
@[simp] theorem onWall_link : (s.onWall f).link = s.link := rfl
@[simp] theorem onWall_belt : (s.onWall f).belt = s.belt := rfl
@[simp] theorem onWall_capture : (s.onWall f).capture = s.capture := rfl
@[simp] theorem onWall_catalogue : (s.onWall f).catalogue = s.catalogue := rfl
@[simp] theorem onWall_ranges : (s.onWall f).ranges = s.ranges := rfl
@[simp] theorem onWall_book : (s.onWall f).book = s.book := rfl
@[simp] theorem onWall_recirc : (s.onWall f).recirc = s.recirc := rfl
@[simp] theorem onWall_divert : (s.onWall f).divert = s.divert := rfl
@[simp] theorem onWall_wall : (s.onWall f).wall = f s.wall := rfl
@[simp] theorem onWall_wave : (s.onWall f).wave = s.wave := rfl
@[simp] theorem onWall_pause : (s.onWall f).pause = s.pause := rfl
@[simp] theorem onWall_status : (s.onWall f).status = s.status := rfl
@[simp] theorem onWall_params : (s.onWall f).params = s.params := rfl
@[simp] theorem onWall_p : (s.onWall f).p = s.p := rfl

end

section
variable (s : State) (f : WaveUnit → WaveUnit)

@[simp] theorem onWave_pending : (s.onWave f).pending = s.pending := rfl
@[simp] theorem onWave_inReset : (s.onWave f).inReset = s.inReset := rfl
@[simp] theorem onWave_pins : (s.onWave f).pins = s.pins := rfl
@[simp] theorem onWave_link : (s.onWave f).link = s.link := rfl
@[simp] theorem onWave_belt : (s.onWave f).belt = s.belt := rfl
@[simp] theorem onWave_capture : (s.onWave f).capture = s.capture := rfl
@[simp] theorem onWave_catalogue : (s.onWave f).catalogue = s.catalogue := rfl
@[simp] theorem onWave_ranges : (s.onWave f).ranges = s.ranges := rfl
@[simp] theorem onWave_book : (s.onWave f).book = s.book := rfl
@[simp] theorem onWave_recirc : (s.onWave f).recirc = s.recirc := rfl
@[simp] theorem onWave_divert : (s.onWave f).divert = s.divert := rfl
@[simp] theorem onWave_wall : (s.onWave f).wall = s.wall := rfl
@[simp] theorem onWave_wave : (s.onWave f).wave = f s.wave := rfl
@[simp] theorem onWave_pause : (s.onWave f).pause = s.pause := rfl
@[simp] theorem onWave_status : (s.onWave f).status = s.status := rfl
@[simp] theorem onWave_params : (s.onWave f).params = s.params := rfl
@[simp] theorem onWave_p : (s.onWave f).p = s.p := rfl

end

section
variable (s : State) (f : PauseController → PauseController)

@[simp] theorem onPause_pending : (s.onPause f).pending = s.pending := rfl
@[simp] theorem onPause_inReset : (s.onPause f).inReset = s.inReset := rfl
@[simp] theorem onPause_pins : (s.onPause f).pins = s.pins := rfl
@[simp] theorem onPause_link : (s.onPause f).link = s.link := rfl
@[simp] theorem onPause_belt : (s.onPause f).belt = s.belt := rfl
@[simp] theorem onPause_capture : (s.onPause f).capture = s.capture := rfl
@[simp] theorem onPause_catalogue : (s.onPause f).catalogue = s.catalogue := rfl
@[simp] theorem onPause_ranges : (s.onPause f).ranges = s.ranges := rfl
@[simp] theorem onPause_book : (s.onPause f).book = s.book := rfl
@[simp] theorem onPause_recirc : (s.onPause f).recirc = s.recirc := rfl
@[simp] theorem onPause_divert : (s.onPause f).divert = s.divert := rfl
@[simp] theorem onPause_wall : (s.onPause f).wall = s.wall := rfl
@[simp] theorem onPause_wave : (s.onPause f).wave = s.wave := rfl
@[simp] theorem onPause_pause : (s.onPause f).pause = f s.pause := rfl
@[simp] theorem onPause_status : (s.onPause f).status = s.status := rfl
@[simp] theorem onPause_params : (s.onPause f).params = s.params := rfl
@[simp] theorem onPause_p : (s.onPause f).p = s.p := rfl

end

section
variable (s : State) (f : StatusUnit → StatusUnit)

@[simp] theorem onStatus_pending : (s.onStatus f).pending = s.pending := rfl
@[simp] theorem onStatus_inReset : (s.onStatus f).inReset = s.inReset := rfl
@[simp] theorem onStatus_pins : (s.onStatus f).pins = s.pins := rfl
@[simp] theorem onStatus_link : (s.onStatus f).link = s.link := rfl
@[simp] theorem onStatus_belt : (s.onStatus f).belt = s.belt := rfl
@[simp] theorem onStatus_capture : (s.onStatus f).capture = s.capture := rfl
@[simp] theorem onStatus_catalogue : (s.onStatus f).catalogue = s.catalogue := rfl
@[simp] theorem onStatus_ranges : (s.onStatus f).ranges = s.ranges := rfl
@[simp] theorem onStatus_book : (s.onStatus f).book = s.book := rfl
@[simp] theorem onStatus_recirc : (s.onStatus f).recirc = s.recirc := rfl
@[simp] theorem onStatus_divert : (s.onStatus f).divert = s.divert := rfl
@[simp] theorem onStatus_wall : (s.onStatus f).wall = s.wall := rfl
@[simp] theorem onStatus_wave : (s.onStatus f).wave = s.wave := rfl
@[simp] theorem onStatus_pause : (s.onStatus f).pause = s.pause := rfl
@[simp] theorem onStatus_status : (s.onStatus f).status = f s.status := rfl
@[simp] theorem onStatus_params : (s.onStatus f).params = s.params := rfl
@[simp] theorem onStatus_p : (s.onStatus f).p = s.p := rfl

end

section
variable (s : State) (f : Params → Params)

@[simp] theorem onParams_pending : (s.onParams f).pending = s.pending := rfl
@[simp] theorem onParams_inReset : (s.onParams f).inReset = s.inReset := rfl
@[simp] theorem onParams_pins : (s.onParams f).pins = s.pins := rfl
@[simp] theorem onParams_link : (s.onParams f).link = s.link := rfl
@[simp] theorem onParams_belt : (s.onParams f).belt = s.belt := rfl
@[simp] theorem onParams_capture : (s.onParams f).capture = s.capture := rfl
@[simp] theorem onParams_catalogue : (s.onParams f).catalogue = s.catalogue := rfl
@[simp] theorem onParams_ranges : (s.onParams f).ranges = s.ranges := rfl
@[simp] theorem onParams_book : (s.onParams f).book = s.book := rfl
@[simp] theorem onParams_recirc : (s.onParams f).recirc = s.recirc := rfl
@[simp] theorem onParams_divert : (s.onParams f).divert = s.divert := rfl
@[simp] theorem onParams_wall : (s.onParams f).wall = s.wall := rfl
@[simp] theorem onParams_wave : (s.onParams f).wave = s.wave := rfl
@[simp] theorem onParams_pause : (s.onParams f).pause = s.pause := rfl
@[simp] theorem onParams_status : (s.onParams f).status = s.status := rfl
@[simp] theorem onParams_params : (s.onParams f).params = f s.params := rfl
@[simp] theorem onParams_p : (s.onParams f).p = s.p := rfl

end

end Sys2Proof.Machine
end

