-- ==== Sys2Proof/Laws/Frames.lean ====
section
/-! SUPPORT. For each operation the blocks share: what it can do, said once, and the parts of the state it leaves
as they are. -/

namespace Sys2Proof.Machine

/-! ### Counting and reporting -/

/-- The intake link after a report: a sequence number is taken and the frame queued or lost (R168, R169,
R171, R173). -/
def linkAfterReport (r : Report) (s : State) : IntakeLink :=
  if s.params.reportMask.getLsbD r.kind.code then
    if s.link.txQueue.length ≤ Config.txEventLimit ∧ s.link.resetWait = .idle then
      { s.link with
        seq := s.link.seq + 1, txQueue := s.link.txQueue ++ [eventFrame r s], sending := true }
    else { s.link with seq := s.link.seq + 1 }
  else s.link

/-- All that a report does. -/
theorem report_eq_update (r : Report) (s : State) :
    report r s =
      { s with
        status := { s.status with flags := setFlag r.kind s.status.flags }
        link := linkAfterReport r s } := by
  unfold linkAfterReport
  by_cases h : s.params.reportMask.getLsbD r.kind.code = true
  · rw [if_pos h]
    refine Eq.trans (if_pos h) ?_
    by_cases h2 : s.link.txQueue.length ≤ Config.txEventLimit ∧ s.link.resetWait = .idle
    · rw [if_pos h2]
      exact if_pos h2
    · rw [if_neg h2]
      exact if_neg h2
  · rw [if_neg h]
    exact if_neg h

@[simp] theorem report_pending (r : Report) (s : State) :
    (report r s).pending = s.pending := by rw [report_eq_update]
@[simp] theorem report_inReset (r : Report) (s : State) :
    (report r s).inReset = s.inReset := by rw [report_eq_update]
@[simp] theorem report_pins (r : Report) (s : State) :
    (report r s).pins = s.pins := by rw [report_eq_update]
@[simp] theorem report_belt (r : Report) (s : State) :
    (report r s).belt = s.belt := by rw [report_eq_update]
@[simp] theorem report_capture (r : Report) (s : State) :
    (report r s).capture = s.capture := by rw [report_eq_update]
@[simp] theorem report_catalogue (r : Report) (s : State) :
    (report r s).catalogue = s.catalogue := by rw [report_eq_update]
@[simp] theorem report_ranges (r : Report) (s : State) :
    (report r s).ranges = s.ranges := by rw [report_eq_update]
@[simp] theorem report_book (r : Report) (s : State) :
    (report r s).book = s.book := by rw [report_eq_update]
@[simp] theorem report_recirc (r : Report) (s : State) :
    (report r s).recirc = s.recirc := by rw [report_eq_update]
@[simp] theorem report_divert (r : Report) (s : State) :
    (report r s).divert = s.divert := by rw [report_eq_update]
@[simp] theorem report_wall (r : Report) (s : State) :
    (report r s).wall = s.wall := by rw [report_eq_update]
@[simp] theorem report_wave (r : Report) (s : State) :
    (report r s).wave = s.wave := by rw [report_eq_update]
@[simp] theorem report_pause (r : Report) (s : State) :
    (report r s).pause = s.pause := by rw [report_eq_update]
@[simp] theorem report_params (r : Report) (s : State) :
    (report r s).params = s.params := by rw [report_eq_update]

/-- All that an increase does. -/
theorem count_eq_update (c : Counter) (s : State) :
    count c s = { s with status := { s.status with counters := countIn c s.status.counters } } := rfl

@[simp] theorem count_pending (c : Counter) (s : State) :
    (count c s).pending = s.pending := by rfl
@[simp] theorem count_inReset (c : Counter) (s : State) :
    (count c s).inReset = s.inReset := by rfl
@[simp] theorem count_pins (c : Counter) (s : State) :
    (count c s).pins = s.pins := by rfl
@[simp] theorem count_link (c : Counter) (s : State) :
    (count c s).link = s.link := by rfl
@[simp] theorem count_belt (c : Counter) (s : State) :
    (count c s).belt = s.belt := by rfl
@[simp] theorem count_capture (c : Counter) (s : State) :
    (count c s).capture = s.capture := by rfl
@[simp] theorem count_catalogue (c : Counter) (s : State) :
    (count c s).catalogue = s.catalogue := by rfl
@[simp] theorem count_ranges (c : Counter) (s : State) :
    (count c s).ranges = s.ranges := by rfl
@[simp] theorem count_book (c : Counter) (s : State) :
    (count c s).book = s.book := by rfl
@[simp] theorem count_recirc (c : Counter) (s : State) :
    (count c s).recirc = s.recirc := by rfl
@[simp] theorem count_divert (c : Counter) (s : State) :
    (count c s).divert = s.divert := by rfl
@[simp] theorem count_wall (c : Counter) (s : State) :
    (count c s).wall = s.wall := by rfl
@[simp] theorem count_wave (c : Counter) (s : State) :
    (count c s).wave = s.wave := by rfl
@[simp] theorem count_pause (c : Counter) (s : State) :
    (count c s).pause = s.pause := by rfl
@[simp] theorem count_params (c : Counter) (s : State) :
    (count c s).params = s.params := by rfl

/-! ### The Order Book -/

@[simp] theorem reserve_pending (slot line w l : Nat) (s : State) :
    (reserve slot line w l s).pending = s.pending := by rfl
@[simp] theorem reserve_inReset (slot line w l : Nat) (s : State) :
    (reserve slot line w l s).inReset = s.inReset := by rfl
@[simp] theorem reserve_pins (slot line w l : Nat) (s : State) :
    (reserve slot line w l s).pins = s.pins := by rfl
@[simp] theorem reserve_link (slot line w l : Nat) (s : State) :
    (reserve slot line w l s).link = s.link := by rfl
@[simp] theorem reserve_belt (slot line w l : Nat) (s : State) :
    (reserve slot line w l s).belt = s.belt := by rfl
@[simp] theorem reserve_capture (slot line w l : Nat) (s : State) :
    (reserve slot line w l s).capture = s.capture := by rfl
@[simp] theorem reserve_catalogue (slot line w l : Nat) (s : State) :
    (reserve slot line w l s).catalogue = s.catalogue := by rfl
@[simp] theorem reserve_ranges (slot line w l : Nat) (s : State) :
    (reserve slot line w l s).ranges = s.ranges := by rfl
@[simp] theorem reserve_recirc (slot line w l : Nat) (s : State) :
    (reserve slot line w l s).recirc = s.recirc := by rfl
@[simp] theorem reserve_divert (slot line w l : Nat) (s : State) :
    (reserve slot line w l s).divert = s.divert := by rfl
@[simp] theorem reserve_wall (slot line w l : Nat) (s : State) :
    (reserve slot line w l s).wall = s.wall := by rfl
@[simp] theorem reserve_wave (slot line w l : Nat) (s : State) :
    (reserve slot line w l s).wave = s.wave := by rfl
@[simp] theorem reserve_pause (slot line w l : Nat) (s : State) :
    (reserve slot line w l s).pause = s.pause := by rfl
@[simp] theorem reserve_status (slot line w l : Nat) (s : State) :
    (reserve slot line w l s).status = s.status := by rfl
@[simp] theorem reserve_params (slot line w l : Nat) (s : State) :
    (reserve slot line w l s).params = s.params := by rfl
@[simp] theorem enterComplete_pending (o : Order) (short : Bool) (s : State) :
    (enterComplete o short s).pending = s.pending := by simp [enterComplete]
@[simp] theorem enterComplete_inReset (o : Order) (short : Bool) (s : State) :
    (enterComplete o short s).inReset = s.inReset := by simp [enterComplete]
@[simp] theorem enterComplete_pins (o : Order) (short : Bool) (s : State) :
    (enterComplete o short s).pins = s.pins := by simp [enterComplete]
@[simp] theorem enterComplete_belt (o : Order) (short : Bool) (s : State) :
    (enterComplete o short s).belt = s.belt := by simp [enterComplete]
@[simp] theorem enterComplete_capture (o : Order) (short : Bool) (s : State) :
    (enterComplete o short s).capture = s.capture := by simp [enterComplete]
@[simp] theorem enterComplete_catalogue (o : Order) (short : Bool) (s : State) :
    (enterComplete o short s).catalogue = s.catalogue := by simp [enterComplete]
@[simp] theorem enterComplete_ranges (o : Order) (short : Bool) (s : State) :
    (enterComplete o short s).ranges = s.ranges := by simp [enterComplete]
@[simp] theorem enterComplete_recirc (o : Order) (short : Bool) (s : State) :
    (enterComplete o short s).recirc = s.recirc := by simp [enterComplete]
@[simp] theorem enterComplete_divert (o : Order) (short : Bool) (s : State) :
    (enterComplete o short s).divert = s.divert := by simp [enterComplete]
@[simp] theorem enterComplete_wall (o : Order) (short : Bool) (s : State) :
    (enterComplete o short s).wall = s.wall := by simp [enterComplete]
@[simp] theorem enterComplete_wave (o : Order) (short : Bool) (s : State) :
    (enterComplete o short s).wave = s.wave := by simp [enterComplete]
@[simp] theorem enterComplete_pause (o : Order) (short : Bool) (s : State) :
    (enterComplete o short s).pause = s.pause := by simp [enterComplete]
@[simp] theorem enterComplete_params (o : Order) (short : Bool) (s : State) :
    (enterComplete o short s).params = s.params := by simp [enterComplete]

/-- The complete-check leaves the state or completes the order of the slot. -/
theorem completeCheck_cases (slot : Nat) (s : State) :
    completeCheck slot s = s ∨ ∃ o short, s.book.atSlot slot = some o ∧
      completeCheck slot s = enterComplete o short s := by
  unfold completeCheck
  split
  · exact Or.inl rfl
  · rename_i o ho
    split
    · split
      · exact Or.inr ⟨o, false, ho, rfl⟩
      · exact Or.inl rfl
    · split
      · exact Or.inr ⟨o, true, ho, rfl⟩
      · exact Or.inl rfl
    · exact Or.inl rfl

@[simp] theorem completeCheck_pending (slot : Nat) (s : State) :
    (completeCheck slot s).pending = s.pending := by 
  rcases completeCheck_cases slot s with h | ⟨o, short, -, h⟩ <;> simp [h]
@[simp] theorem completeCheck_inReset (slot : Nat) (s : State) :
    (completeCheck slot s).inReset = s.inReset := by 
  rcases completeCheck_cases slot s with h | ⟨o, short, -, h⟩ <;> simp [h]
@[simp] theorem completeCheck_pins (slot : Nat) (s : State) :
    (completeCheck slot s).pins = s.pins := by 
  rcases completeCheck_cases slot s with h | ⟨o, short, -, h⟩ <;> simp [h]
@[simp] theorem completeCheck_belt (slot : Nat) (s : State) :
    (completeCheck slot s).belt = s.belt := by 
  rcases completeCheck_cases slot s with h | ⟨o, short, -, h⟩ <;> simp [h]
@[simp] theorem completeCheck_capture (slot : Nat) (s : State) :
    (completeCheck slot s).capture = s.capture := by 
  rcases completeCheck_cases slot s with h | ⟨o, short, -, h⟩ <;> simp [h]
@[simp] theorem completeCheck_catalogue (slot : Nat) (s : State) :
    (completeCheck slot s).catalogue = s.catalogue := by 
  rcases completeCheck_cases slot s with h | ⟨o, short, -, h⟩ <;> simp [h]
@[simp] theorem completeCheck_ranges (slot : Nat) (s : State) :
    (completeCheck slot s).ranges = s.ranges := by 
  rcases completeCheck_cases slot s with h | ⟨o, short, -, h⟩ <;> simp [h]
@[simp] theorem completeCheck_recirc (slot : Nat) (s : State) :
    (completeCheck slot s).recirc = s.recirc := by 
  rcases completeCheck_cases slot s with h | ⟨o, short, -, h⟩ <;> simp [h]
@[simp] theorem completeCheck_divert (slot : Nat) (s : State) :
    (completeCheck slot s).divert = s.divert := by 
  rcases completeCheck_cases slot s with h | ⟨o, short, -, h⟩ <;> simp [h]
@[simp] theorem completeCheck_wall (slot : Nat) (s : State) :
    (completeCheck slot s).wall = s.wall := by 
  rcases completeCheck_cases slot s with h | ⟨o, short, -, h⟩ <;> simp [h]
@[simp] theorem completeCheck_wave (slot : Nat) (s : State) :
    (completeCheck slot s).wave = s.wave := by 
  rcases completeCheck_cases slot s with h | ⟨o, short, -, h⟩ <;> simp [h]
@[simp] theorem completeCheck_pause (slot : Nat) (s : State) :
    (completeCheck slot s).pause = s.pause := by 
  rcases completeCheck_cases slot s with h | ⟨o, short, -, h⟩ <;> simp [h]
@[simp] theorem completeCheck_params (slot : Nat) (s : State) :
    (completeCheck slot s).params = s.params := by 
  rcases completeCheck_cases slot s with h | ⟨o, short, -, h⟩ <;> simp [h]
@[simp] theorem confirm_pending (slot line w l : Nat) (s : State) :
    (confirm slot line w l s).pending = s.pending := by simp [confirm]
@[simp] theorem confirm_inReset (slot line w l : Nat) (s : State) :
    (confirm slot line w l s).inReset = s.inReset := by simp [confirm]
@[simp] theorem confirm_pins (slot line w l : Nat) (s : State) :
    (confirm slot line w l s).pins = s.pins := by simp [confirm]
@[simp] theorem confirm_belt (slot line w l : Nat) (s : State) :
    (confirm slot line w l s).belt = s.belt := by simp [confirm]
@[simp] theorem confirm_capture (slot line w l : Nat) (s : State) :
    (confirm slot line w l s).capture = s.capture := by simp [confirm]
@[simp] theorem confirm_catalogue (slot line w l : Nat) (s : State) :
    (confirm slot line w l s).catalogue = s.catalogue := by simp [confirm]
@[simp] theorem confirm_ranges (slot line w l : Nat) (s : State) :
    (confirm slot line w l s).ranges = s.ranges := by simp [confirm]
@[simp] theorem confirm_recirc (slot line w l : Nat) (s : State) :
    (confirm slot line w l s).recirc = s.recirc := by simp [confirm]
@[simp] theorem confirm_divert (slot line w l : Nat) (s : State) :
    (confirm slot line w l s).divert = s.divert := by simp [confirm]
@[simp] theorem confirm_wall (slot line w l : Nat) (s : State) :
    (confirm slot line w l s).wall = s.wall := by simp [confirm]
@[simp] theorem confirm_wave (slot line w l : Nat) (s : State) :
    (confirm slot line w l s).wave = s.wave := by simp [confirm]
@[simp] theorem confirm_pause (slot line w l : Nat) (s : State) :
    (confirm slot line w l s).pause = s.pause := by simp [confirm]
@[simp] theorem confirm_params (slot line w l : Nat) (s : State) :
    (confirm slot line w l s).params = s.params := by simp [confirm]
@[simp] theorem release_pending (slot line w l : Nat) (s : State) :
    (release slot line w l s).pending = s.pending := by simp [release]
@[simp] theorem release_inReset (slot line w l : Nat) (s : State) :
    (release slot line w l s).inReset = s.inReset := by simp [release]
@[simp] theorem release_pins (slot line w l : Nat) (s : State) :
    (release slot line w l s).pins = s.pins := by simp [release]
@[simp] theorem release_belt (slot line w l : Nat) (s : State) :
    (release slot line w l s).belt = s.belt := by simp [release]
@[simp] theorem release_capture (slot line w l : Nat) (s : State) :
    (release slot line w l s).capture = s.capture := by simp [release]
@[simp] theorem release_catalogue (slot line w l : Nat) (s : State) :
    (release slot line w l s).catalogue = s.catalogue := by simp [release]
@[simp] theorem release_ranges (slot line w l : Nat) (s : State) :
    (release slot line w l s).ranges = s.ranges := by simp [release]
@[simp] theorem release_recirc (slot line w l : Nat) (s : State) :
    (release slot line w l s).recirc = s.recirc := by simp [release]
@[simp] theorem release_divert (slot line w l : Nat) (s : State) :
    (release slot line w l s).divert = s.divert := by simp [release]
@[simp] theorem release_wall (slot line w l : Nat) (s : State) :
    (release slot line w l s).wall = s.wall := by simp [release]
@[simp] theorem release_wave (slot line w l : Nat) (s : State) :
    (release slot line w l s).wave = s.wave := by simp [release]
@[simp] theorem release_pause (slot line w l : Nat) (s : State) :
    (release slot line w l s).pause = s.pause := by simp [release]
@[simp] theorem release_params (slot line w l : Nat) (s : State) :
    (release slot line w l s).params = s.params := by simp [release]
@[simp] theorem releaseEntry_pending (e : Entry) (s : State) :
    (releaseEntry e s).pending = s.pending := by unfold releaseEntry; split <;> simp
@[simp] theorem releaseEntry_inReset (e : Entry) (s : State) :
    (releaseEntry e s).inReset = s.inReset := by unfold releaseEntry; split <;> simp
@[simp] theorem releaseEntry_pins (e : Entry) (s : State) :
    (releaseEntry e s).pins = s.pins := by unfold releaseEntry; split <;> simp
@[simp] theorem releaseEntry_belt (e : Entry) (s : State) :
    (releaseEntry e s).belt = s.belt := by unfold releaseEntry; split <;> simp
@[simp] theorem releaseEntry_capture (e : Entry) (s : State) :
    (releaseEntry e s).capture = s.capture := by unfold releaseEntry; split <;> simp
@[simp] theorem releaseEntry_catalogue (e : Entry) (s : State) :
    (releaseEntry e s).catalogue = s.catalogue := by unfold releaseEntry; split <;> simp
@[simp] theorem releaseEntry_ranges (e : Entry) (s : State) :
    (releaseEntry e s).ranges = s.ranges := by unfold releaseEntry; split <;> simp
@[simp] theorem releaseEntry_recirc (e : Entry) (s : State) :
    (releaseEntry e s).recirc = s.recirc := by unfold releaseEntry; split <;> simp
@[simp] theorem releaseEntry_divert (e : Entry) (s : State) :
    (releaseEntry e s).divert = s.divert := by unfold releaseEntry; split <;> simp
@[simp] theorem releaseEntry_wall (e : Entry) (s : State) :
    (releaseEntry e s).wall = s.wall := by unfold releaseEntry; split <;> simp
@[simp] theorem releaseEntry_wave (e : Entry) (s : State) :
    (releaseEntry e s).wave = s.wave := by unfold releaseEntry; split <;> simp
@[simp] theorem releaseEntry_pause (e : Entry) (s : State) :
    (releaseEntry e s).pause = s.pause := by unfold releaseEntry; split <;> simp
@[simp] theorem releaseEntry_params (e : Entry) (s : State) :
    (releaseEntry e s).params = s.params := by unfold releaseEntry; split <;> simp
@[simp] theorem runBinder_pending (s : State) :
    (runBinder s).pending = s.pending := by rfl
@[simp] theorem runBinder_inReset (s : State) :
    (runBinder s).inReset = s.inReset := by rfl
@[simp] theorem runBinder_pins (s : State) :
    (runBinder s).pins = s.pins := by rfl
@[simp] theorem runBinder_link (s : State) :
    (runBinder s).link = s.link := by rfl
@[simp] theorem runBinder_belt (s : State) :
    (runBinder s).belt = s.belt := by rfl
@[simp] theorem runBinder_capture (s : State) :
    (runBinder s).capture = s.capture := by rfl
@[simp] theorem runBinder_catalogue (s : State) :
    (runBinder s).catalogue = s.catalogue := by rfl
@[simp] theorem runBinder_ranges (s : State) :
    (runBinder s).ranges = s.ranges := by rfl
@[simp] theorem runBinder_recirc (s : State) :
    (runBinder s).recirc = s.recirc := by rfl
@[simp] theorem runBinder_divert (s : State) :
    (runBinder s).divert = s.divert := by rfl
@[simp] theorem runBinder_wall (s : State) :
    (runBinder s).wall = s.wall := by rfl
@[simp] theorem runBinder_wave (s : State) :
    (runBinder s).wave = s.wave := by rfl
@[simp] theorem runBinder_pause (s : State) :
    (runBinder s).pause = s.pause := by rfl
@[simp] theorem runBinder_status (s : State) :
    (runBinder s).status = s.status := by rfl
@[simp] theorem runBinder_params (s : State) :
    (runBinder s).params = s.params := by rfl
@[simp] theorem promote_pending (s : State) :
    (promote s).pending = s.pending := by unfold promote; split <;> rfl
@[simp] theorem promote_inReset (s : State) :
    (promote s).inReset = s.inReset := by unfold promote; split <;> rfl
@[simp] theorem promote_pins (s : State) :
    (promote s).pins = s.pins := by unfold promote; split <;> rfl
@[simp] theorem promote_link (s : State) :
    (promote s).link = s.link := by unfold promote; split <;> rfl
@[simp] theorem promote_belt (s : State) :
    (promote s).belt = s.belt := by unfold promote; split <;> rfl
@[simp] theorem promote_capture (s : State) :
    (promote s).capture = s.capture := by unfold promote; split <;> rfl
@[simp] theorem promote_catalogue (s : State) :
    (promote s).catalogue = s.catalogue := by unfold promote; split <;> rfl
@[simp] theorem promote_ranges (s : State) :
    (promote s).ranges = s.ranges := by unfold promote; split <;> rfl
@[simp] theorem promote_recirc (s : State) :
    (promote s).recirc = s.recirc := by unfold promote; split <;> rfl
@[simp] theorem promote_divert (s : State) :
    (promote s).divert = s.divert := by unfold promote; split <;> rfl
@[simp] theorem promote_wall (s : State) :
    (promote s).wall = s.wall := by unfold promote; split <;> rfl
@[simp] theorem promote_wave (s : State) :
    (promote s).wave = s.wave := by unfold promote; split <;> rfl
@[simp] theorem promote_pause (s : State) :
    (promote s).pause = s.pause := by unfold promote; split <;> rfl
@[simp] theorem promote_status (s : State) :
    (promote s).status = s.status := by unfold promote; split <;> rfl
@[simp] theorem promote_params (s : State) :
    (promote s).params = s.params := by unfold promote; split <;> rfl

/-! ### Waves and the pause -/

@[simp] theorem advance_pending (detail : Nat) (s : State) :
    (advance detail s).pending = s.pending := by simp [advance, activate]
@[simp] theorem advance_inReset (detail : Nat) (s : State) :
    (advance detail s).inReset = s.inReset := by simp [advance, activate]
@[simp] theorem advance_pins (detail : Nat) (s : State) :
    (advance detail s).pins = s.pins := by simp [advance, activate]
@[simp] theorem advance_belt (detail : Nat) (s : State) :
    (advance detail s).belt = s.belt := by simp [advance, activate]
@[simp] theorem advance_capture (detail : Nat) (s : State) :
    (advance detail s).capture = s.capture := by simp [advance, activate]
@[simp] theorem advance_catalogue (detail : Nat) (s : State) :
    (advance detail s).catalogue = s.catalogue := by simp [advance, activate]
@[simp] theorem advance_recirc (detail : Nat) (s : State) :
    (advance detail s).recirc = s.recirc := by simp [advance, activate]
@[simp] theorem advance_divert (detail : Nat) (s : State) :
    (advance detail s).divert = s.divert := by simp [advance, activate]
@[simp] theorem advance_wall (detail : Nat) (s : State) :
    (advance detail s).wall = s.wall := by simp [advance, activate]
@[simp] theorem advance_pause (detail : Nat) (s : State) :
    (advance detail s).pause = s.pause := by simp [advance, activate]
@[simp] theorem advance_params (detail : Nat) (s : State) :
    (advance detail s).params = s.params := by simp [advance, activate]
@[simp] theorem performLatched_pending (s : State) :
    (performLatched s).pending = s.pending := by unfold performLatched; split <;> simp
@[simp] theorem performLatched_inReset (s : State) :
    (performLatched s).inReset = s.inReset := by unfold performLatched; split <;> simp
@[simp] theorem performLatched_pins (s : State) :
    (performLatched s).pins = s.pins := by unfold performLatched; split <;> simp
@[simp] theorem performLatched_belt (s : State) :
    (performLatched s).belt = s.belt := by unfold performLatched; split <;> simp
@[simp] theorem performLatched_capture (s : State) :
    (performLatched s).capture = s.capture := by unfold performLatched; split <;> simp
@[simp] theorem performLatched_catalogue (s : State) :
    (performLatched s).catalogue = s.catalogue := by unfold performLatched; split <;> simp
@[simp] theorem performLatched_recirc (s : State) :
    (performLatched s).recirc = s.recirc := by unfold performLatched; split <;> simp
@[simp] theorem performLatched_divert (s : State) :
    (performLatched s).divert = s.divert := by unfold performLatched; split <;> simp
@[simp] theorem performLatched_wall (s : State) :
    (performLatched s).wall = s.wall := by unfold performLatched; split <;> simp
@[simp] theorem performLatched_pause (s : State) :
    (performLatched s).pause = s.pause := by unfold performLatched; split <;> simp
@[simp] theorem performLatched_params (s : State) :
    (performLatched s).params = s.params := by unfold performLatched; split <;> simp
@[simp] theorem countRelease_pending (s : State) :
    (countRelease s).pending = s.pending := by 
  simp only [countRelease]; split <;> (try split) <;> simp
@[simp] theorem countRelease_inReset (s : State) :
    (countRelease s).inReset = s.inReset := by 
  simp only [countRelease]; split <;> (try split) <;> simp
@[simp] theorem countRelease_pins (s : State) :
    (countRelease s).pins = s.pins := by 
  simp only [countRelease]; split <;> (try split) <;> simp
@[simp] theorem countRelease_belt (s : State) :
    (countRelease s).belt = s.belt := by 
  simp only [countRelease]; split <;> (try split) <;> simp
@[simp] theorem countRelease_capture (s : State) :
    (countRelease s).capture = s.capture := by 
  simp only [countRelease]; split <;> (try split) <;> simp
@[simp] theorem countRelease_catalogue (s : State) :
    (countRelease s).catalogue = s.catalogue := by 
  simp only [countRelease]; split <;> (try split) <;> simp
@[simp] theorem countRelease_recirc (s : State) :
    (countRelease s).recirc = s.recirc := by 
  simp only [countRelease]; split <;> (try split) <;> simp
@[simp] theorem countRelease_divert (s : State) :
    (countRelease s).divert = s.divert := by 
  simp only [countRelease]; split <;> (try split) <;> simp
@[simp] theorem countRelease_wall (s : State) :
    (countRelease s).wall = s.wall := by 
  simp only [countRelease]; split <;> (try split) <;> simp
@[simp] theorem countRelease_pause (s : State) :
    (countRelease s).pause = s.pause := by 
  simp only [countRelease]; split <;> (try split) <;> simp
@[simp] theorem countRelease_params (s : State) :
    (countRelease s).params = s.params := by 
  simp only [countRelease]; split <;> (try split) <;> simp
@[simp] theorem drainTest_pending (s : State) :
    (drainTest s).pending = s.pending := by unfold drainTest; split <;> simp
@[simp] theorem drainTest_inReset (s : State) :
    (drainTest s).inReset = s.inReset := by unfold drainTest; split <;> simp
@[simp] theorem drainTest_pins (s : State) :
    (drainTest s).pins = s.pins := by unfold drainTest; split <;> simp
@[simp] theorem drainTest_belt (s : State) :
    (drainTest s).belt = s.belt := by unfold drainTest; split <;> simp
@[simp] theorem drainTest_capture (s : State) :
    (drainTest s).capture = s.capture := by unfold drainTest; split <;> simp
@[simp] theorem drainTest_catalogue (s : State) :
    (drainTest s).catalogue = s.catalogue := by unfold drainTest; split <;> simp
@[simp] theorem drainTest_ranges (s : State) :
    (drainTest s).ranges = s.ranges := by unfold drainTest; split <;> simp
@[simp] theorem drainTest_book (s : State) :
    (drainTest s).book = s.book := by unfold drainTest; split <;> simp
@[simp] theorem drainTest_recirc (s : State) :
    (drainTest s).recirc = s.recirc := by unfold drainTest; split <;> simp
@[simp] theorem drainTest_divert (s : State) :
    (drainTest s).divert = s.divert := by unfold drainTest; split <;> simp
@[simp] theorem drainTest_wall (s : State) :
    (drainTest s).wall = s.wall := by unfold drainTest; split <;> simp
@[simp] theorem drainTest_wave (s : State) :
    (drainTest s).wave = s.wave := by unfold drainTest; split <;> simp
@[simp] theorem drainTest_params (s : State) :
    (drainTest s).params = s.params := by unfold drainTest; split <;> simp

/-! ### Lights -/

@[simp] theorem beginLight_pending (s : State) :
    (beginLight s).pending = s.pending := by unfold beginLight; split <;> rfl
@[simp] theorem beginLight_inReset (s : State) :
    (beginLight s).inReset = s.inReset := by unfold beginLight; split <;> rfl
@[simp] theorem beginLight_pins (s : State) :
    (beginLight s).pins = s.pins := by unfold beginLight; split <;> rfl
@[simp] theorem beginLight_link (s : State) :
    (beginLight s).link = s.link := by unfold beginLight; split <;> rfl
@[simp] theorem beginLight_belt (s : State) :
    (beginLight s).belt = s.belt := by unfold beginLight; split <;> rfl
@[simp] theorem beginLight_capture (s : State) :
    (beginLight s).capture = s.capture := by unfold beginLight; split <;> rfl
@[simp] theorem beginLight_catalogue (s : State) :
    (beginLight s).catalogue = s.catalogue := by unfold beginLight; split <;> rfl
@[simp] theorem beginLight_ranges (s : State) :
    (beginLight s).ranges = s.ranges := by unfold beginLight; split <;> rfl
@[simp] theorem beginLight_book (s : State) :
    (beginLight s).book = s.book := by unfold beginLight; split <;> rfl
@[simp] theorem beginLight_recirc (s : State) :
    (beginLight s).recirc = s.recirc := by unfold beginLight; split <;> rfl
@[simp] theorem beginLight_divert (s : State) :
    (beginLight s).divert = s.divert := by unfold beginLight; split <;> rfl
@[simp] theorem beginLight_wave (s : State) :
    (beginLight s).wave = s.wave := by unfold beginLight; split <;> rfl
@[simp] theorem beginLight_pause (s : State) :
    (beginLight s).pause = s.pause := by unfold beginLight; split <;> rfl
@[simp] theorem beginLight_status (s : State) :
    (beginLight s).status = s.status := by unfold beginLight; split <;> rfl
@[simp] theorem beginLight_params (s : State) :
    (beginLight s).params = s.params := by unfold beginLight; split <;> rfl
@[simp] theorem markAndSend_pending (changed : List Nat) (s : State) :
    (markAndSend changed s).pending = s.pending := by simp [markAndSend]
@[simp] theorem markAndSend_inReset (changed : List Nat) (s : State) :
    (markAndSend changed s).inReset = s.inReset := by simp [markAndSend]
@[simp] theorem markAndSend_pins (changed : List Nat) (s : State) :
    (markAndSend changed s).pins = s.pins := by simp [markAndSend]
@[simp] theorem markAndSend_link (changed : List Nat) (s : State) :
    (markAndSend changed s).link = s.link := by simp [markAndSend]
@[simp] theorem markAndSend_belt (changed : List Nat) (s : State) :
    (markAndSend changed s).belt = s.belt := by simp [markAndSend]
@[simp] theorem markAndSend_capture (changed : List Nat) (s : State) :
    (markAndSend changed s).capture = s.capture := by simp [markAndSend]
@[simp] theorem markAndSend_catalogue (changed : List Nat) (s : State) :
    (markAndSend changed s).catalogue = s.catalogue := by simp [markAndSend]
@[simp] theorem markAndSend_ranges (changed : List Nat) (s : State) :
    (markAndSend changed s).ranges = s.ranges := by simp [markAndSend]
@[simp] theorem markAndSend_book (changed : List Nat) (s : State) :
    (markAndSend changed s).book = s.book := by simp [markAndSend]
@[simp] theorem markAndSend_recirc (changed : List Nat) (s : State) :
    (markAndSend changed s).recirc = s.recirc := by simp [markAndSend]
@[simp] theorem markAndSend_divert (changed : List Nat) (s : State) :
    (markAndSend changed s).divert = s.divert := by simp [markAndSend]
@[simp] theorem markAndSend_wave (changed : List Nat) (s : State) :
    (markAndSend changed s).wave = s.wave := by simp [markAndSend]
@[simp] theorem markAndSend_pause (changed : List Nat) (s : State) :
    (markAndSend changed s).pause = s.pause := by simp [markAndSend]
@[simp] theorem markAndSend_status (changed : List Nat) (s : State) :
    (markAndSend changed s).status = s.status := by simp [markAndSend]
@[simp] theorem markAndSend_params (changed : List Nat) (s : State) :
    (markAndSend changed s).params = s.params := by simp [markAndSend]
@[simp] theorem relight_pending (before s : State) :
    (relight before s).pending = s.pending := by unfold relight; split <;> simp
@[simp] theorem relight_inReset (before s : State) :
    (relight before s).inReset = s.inReset := by unfold relight; split <;> simp
@[simp] theorem relight_pins (before s : State) :
    (relight before s).pins = s.pins := by unfold relight; split <;> simp
@[simp] theorem relight_link (before s : State) :
    (relight before s).link = s.link := by unfold relight; split <;> simp
@[simp] theorem relight_belt (before s : State) :
    (relight before s).belt = s.belt := by unfold relight; split <;> simp
@[simp] theorem relight_capture (before s : State) :
    (relight before s).capture = s.capture := by unfold relight; split <;> simp
@[simp] theorem relight_catalogue (before s : State) :
    (relight before s).catalogue = s.catalogue := by unfold relight; split <;> simp
@[simp] theorem relight_ranges (before s : State) :
    (relight before s).ranges = s.ranges := by unfold relight; split <;> simp
@[simp] theorem relight_book (before s : State) :
    (relight before s).book = s.book := by unfold relight; split <;> simp
@[simp] theorem relight_recirc (before s : State) :
    (relight before s).recirc = s.recirc := by unfold relight; split <;> simp
@[simp] theorem relight_divert (before s : State) :
    (relight before s).divert = s.divert := by unfold relight; split <;> simp
@[simp] theorem relight_wave (before s : State) :
    (relight before s).wave = s.wave := by unfold relight; split <;> simp
@[simp] theorem relight_pause (before s : State) :
    (relight before s).pause = s.pause := by unfold relight; split <;> simp
@[simp] theorem relight_status (before s : State) :
    (relight before s).status = s.status := by unfold relight; split <;> simp
@[simp] theorem relight_params (before s : State) :
    (relight before s).params = s.params := by unfold relight; split <;> simp

/-! ### Jams and the clearing edge -/

@[simp] theorem lightsChanged_self (s : State) : lightsChanged s s = [] := by simp [lightsChanged]

@[simp] theorem relight_self (s : State) : relight s s = s := by simp [relight]

/-- A jam that is not due changes nothing, R103. -/
theorem jamArm_of_not_due (a : Arm) (s : State) (h : (s.divert.eyes.get a).jamDue = false) :
    jamArm a s = s := by simp [jamArm, h]

/-- Where no jam is due a clearing edge removes the block start and clears a jam, R106. -/
theorem chuteCleared_of_not_due (a : Arm) (s : State) (h : (s.divert.eyes.get a).jamDue = false) :
    chuteCleared a s = clearJam a (setChuteEye a { blockStart := none, jamDue := false } s) := by
  simp [chuteCleared, withLights, jamArm_of_not_due a s h]

end Sys2Proof.Machine
end

