-- ==== Sys2Proof/Laws/PerInstr.lean ====
section
/-! SUPPORT. The family of statements made per command: a request has a code of Section 9.7 and its frame, when
well formed, is no longer than the longest intake frame (R159); an event has no body to check. -/

namespace Sys2Proof.Laws

open Sys2Proof.Machine

/-- A well-formed request's frame is at most 249 bytes long. -/
theorem requestFrame_length_le (node code : Byte) (q : Request) (h : q.wf = true) :
    (requestFrameTo node code q).bytes.length ≤ 249 := by
  have hq : 1 + q.body.length ≤ 240 := of_decide_eq_true h
  have h2 : ∀ w v, (toBytes w v).length = w := by
    intro w
    induction w with
    | zero => intro v; rfl
    | succ k ih => intro v; rw [toBytes, List.length_cons, ih]
  simp only [Frame.bytes, Frame.covered, requestFrameTo, crcBytes, List.length_cons,
    List.length_append, List.length_nil, h2]
  omega

/-- What the family says of a command. -/
def FitsFrame.Statement (i : Instr) : Prop :=
  match i.request? with
  | none => i.lengthFits = true ∧ i.isReset = (i == .powerOn || i == .resetPin || i == .partResetTaken)
  | some (code, q) => code.toNat ∈ requestCodes ∧ i.isReset = false ∧
      (i.wf = true → ∀ node, (requestFrameTo node code q).bytes.length ≤ 249)

theorem FitsFrame.readIdent (q : Request) : FitsFrame.Statement (.readIdent q) :=
  ⟨by decide, rfl, fun h node => requestFrame_length_le node _ q h⟩
theorem FitsFrame.readStatus (q : Request) : FitsFrame.Statement (.readStatus q) :=
  ⟨by decide, rfl, fun h node => requestFrame_length_le node _ q h⟩
theorem FitsFrame.clearFlags (q : Request) : FitsFrame.Statement (.clearFlags q) :=
  ⟨by decide, rfl, fun h node => requestFrame_length_le node _ q h⟩
theorem FitsFrame.readCounters (q : Request) : FitsFrame.Statement (.readCounters q) :=
  ⟨by decide, rfl, fun h node => requestFrame_length_le node _ q h⟩
theorem FitsFrame.readRefusal (q : Request) : FitsFrame.Statement (.readRefusal q) :=
  ⟨by decide, rfl, fun h node => requestFrame_length_le node _ q h⟩
theorem FitsFrame.clearRefusal (q : Request) : FitsFrame.Statement (.clearRefusal q) :=
  ⟨by decide, rfl, fun h node => requestFrame_length_le node _ q h⟩
theorem FitsFrame.setParam (q : Request) : FitsFrame.Statement (.setParam q) :=
  ⟨by decide, rfl, fun h node => requestFrame_length_le node _ q h⟩
theorem FitsFrame.readParam (q : Request) : FitsFrame.Statement (.readParam q) :=
  ⟨by decide, rfl, fun h node => requestFrame_length_le node _ q h⟩
theorem FitsFrame.setLock (q : Request) : FitsFrame.Statement (.setLock q) :=
  ⟨by decide, rfl, fun h node => requestFrame_length_le node _ q h⟩
theorem FitsFrame.loadOrder (q : Request) : FitsFrame.Statement (.loadOrder q) :=
  ⟨by decide, rfl, fun h node => requestFrame_length_le node _ q h⟩
theorem FitsFrame.cancelOrder (q : Request) : FitsFrame.Statement (.cancelOrder q) :=
  ⟨by decide, rfl, fun h node => requestFrame_length_le node _ q h⟩
theorem FitsFrame.shortClose (q : Request) : FitsFrame.Statement (.shortClose q) :=
  ⟨by decide, rfl, fun h node => requestFrame_length_le node _ q h⟩
theorem FitsFrame.readOrder (q : Request) : FitsFrame.Statement (.readOrder q) :=
  ⟨by decide, rfl, fun h node => requestFrame_length_le node _ q h⟩
theorem FitsFrame.readPosition (q : Request) : FitsFrame.Statement (.readPosition q) :=
  ⟨by decide, rfl, fun h node => requestFrame_length_le node _ q h⟩
theorem FitsFrame.loadProduct (q : Request) : FitsFrame.Statement (.loadProduct q) :=
  ⟨by decide, rfl, fun h node => requestFrame_length_le node _ q h⟩
theorem FitsFrame.deleteProduct (q : Request) : FitsFrame.Statement (.deleteProduct q) :=
  ⟨by decide, rfl, fun h node => requestFrame_length_le node _ q h⟩
theorem FitsFrame.readProduct (q : Request) : FitsFrame.Statement (.readProduct q) :=
  ⟨by decide, rfl, fun h node => requestFrame_length_le node _ q h⟩
theorem FitsFrame.stageRange (q : Request) : FitsFrame.Statement (.stageRange q) :=
  ⟨by decide, rfl, fun h node => requestFrame_length_le node _ q h⟩
theorem FitsFrame.stageClass (q : Request) : FitsFrame.Statement (.stageClass q) :=
  ⟨by decide, rfl, fun h node => requestFrame_length_le node _ q h⟩
theorem FitsFrame.readRange (q : Request) : FitsFrame.Statement (.readRange q) :=
  ⟨by decide, rfl, fun h node => requestFrame_length_le node _ q h⟩
theorem FitsFrame.readClass (q : Request) : FitsFrame.Statement (.readClass q) :=
  ⟨by decide, rfl, fun h node => requestFrame_length_le node _ q h⟩
theorem FitsFrame.advanceWave (q : Request) : FitsFrame.Statement (.advanceWave q) :=
  ⟨by decide, rfl, fun h node => requestFrame_length_le node _ q h⟩
theorem FitsFrame.armLanes (q : Request) : FitsFrame.Statement (.armLanes q) :=
  ⟨by decide, rfl, fun h node => requestFrame_length_le node _ q h⟩
theorem FitsFrame.disarmLanes (q : Request) : FitsFrame.Statement (.disarmLanes q) :=
  ⟨by decide, rfl, fun h node => requestFrame_length_le node _ q h⟩
theorem FitsFrame.laneEnable (q : Request) : FitsFrame.Statement (.laneEnable q) :=
  ⟨by decide, rfl, fun h node => requestFrame_length_le node _ q h⟩
theorem FitsFrame.laneDisable (q : Request) : FitsFrame.Statement (.laneDisable q) :=
  ⟨by decide, rfl, fun h node => requestFrame_length_le node _ q h⟩
theorem FitsFrame.pause (q : Request) : FitsFrame.Statement (.pause q) :=
  ⟨by decide, rfl, fun h node => requestFrame_length_le node _ q h⟩
theorem FitsFrame.resume (q : Request) : FitsFrame.Statement (.resume q) :=
  ⟨by decide, rfl, fun h node => requestFrame_length_le node _ q h⟩
theorem FitsFrame.lineClear (q : Request) : FitsFrame.Statement (.lineClear q) :=
  ⟨by decide, rfl, fun h node => requestFrame_length_le node _ q h⟩
theorem FitsFrame.injectCapture (q : Request) : FitsFrame.Statement (.injectCapture q) :=
  ⟨by decide, rfl, fun h node => requestFrame_length_le node _ q h⟩
theorem FitsFrame.partReset (q : Request) : FitsFrame.Statement (.partReset q) :=
  ⟨by decide, rfl, fun h node => requestFrame_length_le node _ q h⟩
theorem FitsFrame.partResetTaken : FitsFrame.Statement .partResetTaken := ⟨rfl, by decide⟩
theorem FitsFrame.intakeFrameReceived (bytes : List Byte) : FitsFrame.Statement (.intakeFrameReceived bytes) := ⟨rfl, rfl⟩
theorem FitsFrame.intakeFrameSent : FitsFrame.Statement .intakeFrameSent := ⟨rfl, by decide⟩
theorem FitsFrame.laneFrameReceived (bytes : List Byte) : FitsFrame.Statement (.laneFrameReceived bytes) := ⟨rfl, rfl⟩
theorem FitsFrame.lightFrameSent : FitsFrame.Statement .lightFrameSent := ⟨rfl, by decide⟩
theorem FitsFrame.encoderPulse : FitsFrame.Statement .encoderPulse := ⟨rfl, by decide⟩
theorem FitsFrame.eyeInputChange (e : Eye) (high : Bool) : FitsFrame.Statement (.eyeInputChange e high) := ⟨rfl, rfl⟩
theorem FitsFrame.captureExpiry : FitsFrame.Statement .captureExpiry := ⟨rfl, by decide⟩
theorem FitsFrame.fire (a : Arm) : FitsFrame.Statement (.fire a) := ⟨rfl, rfl⟩
theorem FitsFrame.dwellEnd (a : Arm) : FitsFrame.Statement (.dwellEnd a) := ⟨rfl, rfl⟩
theorem FitsFrame.lastFireLapse (a : Arm) : FitsFrame.Statement (.lastFireLapse a) := ⟨rfl, rfl⟩
theorem FitsFrame.missedDivert (tag : Tag) : FitsFrame.Statement (.missedDivert tag) := ⟨rfl, rfl⟩
theorem FitsFrame.exit (tag : Tag) : FitsFrame.Statement (.exit tag) := ⟨rfl, rfl⟩
theorem FitsFrame.laneJam (a : Arm) : FitsFrame.Statement (.laneJam a) := ⟨rfl, rfl⟩
theorem FitsFrame.lineStopAssert : FitsFrame.Statement .lineStopAssert := ⟨rfl, by decide⟩
theorem FitsFrame.lineStopRelease : FitsFrame.Statement .lineStopRelease := ⟨rfl, by decide⟩
theorem FitsFrame.pauseReqAssert : FitsFrame.Statement .pauseReqAssert := ⟨rfl, by decide⟩
theorem FitsFrame.pauseReqRelease : FitsFrame.Statement .pauseReqRelease := ⟨rfl, by decide⟩
theorem FitsFrame.powerOn : FitsFrame.Statement .powerOn := ⟨rfl, by decide⟩
theorem FitsFrame.resetPin : FitsFrame.Statement .resetPin := ⟨rfl, by decide⟩
theorem FitsFrame.resetEnd (straps : BitVec 4) : FitsFrame.Statement (.resetEnd straps) := ⟨rfl, rfl⟩

end Sys2Proof.Laws
end

