-- ==== Sys2Proof/Laws/Records.lean ====
section
/-! SUPPORT. The records of lanes, arms and eyes: what a read gives after a write, a map or the same value
everywhere, and that two records that read the same are the same. -/

namespace Sys2Proof.Machine

@[simp] theorem PerLane.get_set {α : Type} (v : PerLane α) (m n : Lane) (x : α) :
    (v.set n x).get m = if m = n then x else v.get m := by
  cases m <;> cases n <;> rfl

@[simp] theorem PerLane.get_map {α β : Type} (f : α → β) (v : PerLane α) (n : Lane) :
    (v.map f).get n = f (v.get n) := by
  cases n <;> rfl

@[simp] theorem PerLane.get_all {α : Type} (x : α) (n : Lane) : (PerLane.all x).get n = x := by
  cases n <;> rfl

theorem PerLane.eq_of_get {α : Type} {v w : PerLane α} (h : ∀ n, v.get n = w.get n) : v = w := by
  obtain ⟨a1, a2, a3, a4, a5, a6, a7, a8⟩ := v
  obtain ⟨b1, b2, b3, b4, b5, b6, b7, b8⟩ := w
  simp only [PerLane.mk.injEq]
  exact ⟨h .l1, h .l2, h .l3, h .l4, h .l5, h .l6, h .l7, h .l8⟩

@[simp] theorem PerArm.get_set {α : Type} (v : PerArm α) (a b : Arm) (x : α) :
    (v.set b x).get a = if a = b then x else v.get a := by
  cases a <;> cases b <;> simp [PerArm.get, PerArm.set]

@[simp] theorem PerArm.get_map {α β : Type} (f : α → β) (v : PerArm α) (a : Arm) :
    (v.map f).get a = f (v.get a) := by
  cases a <;> simp [PerArm.get, PerArm.map]

@[simp] theorem PerArm.get_all {α : Type} (x : α) (a : Arm) : (PerArm.all x).get a = x := by
  cases a <;> simp [PerArm.get, PerArm.all]

theorem PerArm.eq_of_get {α : Type} {v w : PerArm α} (h : ∀ a, v.get a = w.get a) : v = w := by
  obtain ⟨v1, v2⟩ := v
  obtain ⟨w1, w2⟩ := w
  simp only [PerArm.mk.injEq]
  exact ⟨PerLane.eq_of_get fun n => h (.lane n), h .reject⟩

@[simp] theorem PerEye.get_set {α : Type} (v : PerEye α) (d e : Eye) (x : α) :
    (v.set e x).get d = if d = e then x else v.get d := by
  cases d <;> cases e <;> simp [PerEye.get, PerEye.set]

@[simp] theorem PerEye.get_map {α β : Type} (f : α → β) (v : PerEye α) (e : Eye) :
    (v.map f).get e = f (v.get e) := by
  cases e <;> simp [PerEye.get, PerEye.map]

@[simp] theorem PerEye.get_all {α : Type} (x : α) (e : Eye) : (PerEye.all x).get e = x := by
  cases e <;> simp [PerEye.get, PerEye.all]

theorem PerEye.eq_of_get {α : Type} {v w : PerEye α} (h : ∀ e, v.get e = w.get e) : v = w := by
  obtain ⟨v1, v2⟩ := v
  obtain ⟨w1, w2⟩ := w
  simp only [PerEye.mk.injEq]
  exact ⟨h .cap, PerArm.eq_of_get fun a => h (.chute a)⟩

theorem mem_allLanes (n : Lane) : n ∈ allLanes := by cases n <;> decide

theorem mem_allArms (a : Arm) : a ∈ allArms := by
  rcases a with n | _
  · cases n <;> decide
  · decide

theorem mem_allEyes (e : Eye) : e ∈ allEyes := by
  rcases e with _ | a
  · exact List.mem_cons_self
  · exact List.mem_cons_of_mem _ (List.mem_map_of_mem (mem_allArms a))

/-- A lane's number names it. -/
@[simp] theorem laneOf_laneNumber (n : Lane) : laneOf (laneNumber n) = some n := by cases n <;> rfl

theorem laneNumber_bounds (n : Lane) : 1 ≤ laneNumber n ∧ laneNumber n ≤ 8 := by cases n <;> decide

/-- A number names a lane exactly when it is that lane's. -/
theorem laneOf_eq_some {k : Nat} {n : Lane} : laneOf k = some n ↔ k = laneNumber n := by
  constructor
  · intro h
    unfold laneOf at h
    split at h <;> cases h <;> rfl
  · rintro rfl
    exact laneOf_laneNumber n

end Sys2Proof.Machine
end

