-- ==== Sys2Proof/Laws/Requests.lean ====
section
/-! SUPPORT. What the common part of a request can do (R165, R166), said once. -/

namespace Sys2Proof.Machine

/-- The response is queued behind the frames held, and nothing else changes. -/
theorem respond_eq_withResponse (code : Byte) (q : Request) (a : Answer) :
    respond code q a = withResponse code q a.result a.body a.state := rfl

/-- A part that hears takes a request. -/
theorem unlessDeaf_of_hears {s : State} (h : Hears s) (f : State → State) : unlessDeaf f s = f s := by
  rw [unlessDeaf, if_neg]
  simp [h.1, h.2]

/-- A part that does not hear takes none. -/
theorem unlessDeaf_of_not_hears {s : State} (h : ¬ Hears s) (f : State → State) :
    unlessDeaf f s = s := by
  rw [unlessDeaf, if_pos]
  rcases Bool.eq_false_or_eq_true s.inReset with hr | hr
  · exact Or.inl hr
  · exact Or.inr fun hw => h ⟨hr, hw⟩

/-- A request that passes the common checks is answered as its owner answers it. -/
theorem serve_of_accepts {q : Request} {s : State} (h : Accepts q s) (code : Byte)
    (own : List Byte → State → Answer) :
    serve code own q s =
      .next (withResponse code q (own q.body s).result (own q.body s).body (own q.body s).state) := by
  have hl : ¬ Config.txFrames ≤ s.link.txQueue.length := Nat.not_le_of_lt h.2.1
  rw [serve, unlessDeaf_of_hears h.1, takeRequest, if_neg hl, if_neg (not_not_intro h.2.2),
    respond_eq_withResponse]

/-- A request is not heard while the part is deaf. -/
theorem serve_of_not_hears {s : State} (h : ¬ Hears s) (code : Byte)
    (own : List Byte → State → Answer) (q : Request) : serve code own q s = .next s := by
  rw [serve, unlessDeaf_of_not_hears h]

/-- An owner with an empty body is asked as it stands. -/
theorem emptyBody_nil {body : List Byte} (h : body = []) (own : State → Answer) (s : State) :
    emptyBody own body s = own s := by
  rw [emptyBody, if_pos h]

/-- An event is taken outside a reset. -/
theorem unlessInReset_of_running {s : State} (h : s.inReset = false) (f : State → State) :
    unlessInReset f s = f s := by
  rw [unlessInReset, h]
  rfl

/-- No event is taken during a reset. -/
theorem unlessInReset_of_held {s : State} (h : s.inReset = true) (f : State → State) :
    unlessInReset f s = s := by
  rw [unlessInReset, h]
  rfl

end Sys2Proof.Machine
end

