-- ==== Sys2Proof/Tests/Slice0.lean ====
section
/-! SUPPORT. Tests: the well-formedness checks, the worked cases of the manual, and for every statement of
Certificates/Slice0/Obligations.lean that has hypotheses a state and operands that meet them. -/

namespace Sys2Proof.Tests

open Sys2Proof.Machine

/-! ### Fixtures -/

/-- A request from the default control node. -/
def request (body : List Byte) : Request := { source := 0x01, tag := 0x31, body := body }

/-- A request from another node. -/
def stranger (body : List Byte) : Request := { source := 0x22, tag := 0x31, body := body }

/-- An OPEN order at lane 1 position 3 with one line: three units, two of them reserved. -/
def order : Order :=
  { slot := 0, number := 7, cls := 2, dueWave := 1, dispatchDay := 5, budget := 1000
    state := .opened, position := some (.l1, 3), short := false
    lines := [{ primary := 10, substitute := some 11, quantity := 3, reserved := 2, placed := 0 }]
    placedWeight := 0, reservedWeight := 200, placedLayer := none, layerCounts := [0, 2, 0, 0] }

/-- An item placed for it, SCHEDULED on lane 1 at 1600. -/
def item : Entry :=
  { tag := 4, lead := 100, exitAt := 15100, stock := some 5, carrier := some 9
    group := some 10, layer := some 1, weight := some { grams := 100, estimated := false }
    dest := .place .l1 3 0 0 .primary, state := .scheduled 1600 }

/-- An item of it in lane 1's chute. -/
def chuteItem : ChuteEntry :=
  { kind := .put 3 0 0, stock := some 5, carrier := some 8, group := some 10
    weight := some { grams := 100, estimated := false }, layer := some 1 }

/-- A product of group 10, layer 1. -/
def product : Product :=
  { code := 5, group := 10, layer := 1, nominal := 100, tolerance := 10, dated := false }

/-- A running line with one order, one item on the belt, one in the chute and one at the tunnel. -/
def line : State :=
  { State.reset with
    belt := { State.reset.belt with p := 500 }
    capture := { list := [{ tag := 5, lead := 200, trail := none }], nextTag := 6 }
    catalogue := [product]
    book := { orders := [order], freeLines := 2047, queued := [] }
    recirc := [{ carrier := 9, passes := 3 }]
    divert := { State.reset.divert with queue := [item], armsLive := true }
    wall :=
      { State.reset.wall with chutes := (PerLane.all []).set .l1 [chuteItem] } }

/-- The line with P at another position. -/
def lineAt (p : Pos) : State := { line with belt := { line.belt with p := p } }

/-- The line with its one item in another state, P at a position. -/
def lineWith (p : Pos) (st : EntryState) : State :=
  { lineAt p with divert := { line.divert with queue := [{ item with state := st }] } }

/-- A scan record of the product, carrier 9. -/
def scan : Scan := { stock := 5, carrier := 9, weight := 100, bestBefore := 0xFFFF, status := 0 }

/-- The subject of a decision on it. -/
def subject : Subject :=
  { entry := { item with dest := .recirculate .unplaceable, state := .outbound .unplaceable }
    product := product, scan := scan, grams := 100 }

/-- The part held in reset. -/
def held : State := heldState 0x01000000 State.reset

/-- The reset state with a number of frames queued. -/
def queuedFrames (n : Nat) : State :=
  { State.reset with
    link :=
      { State.reset.link with
        txQueue := List.replicate n
          { dest := 0x01, source := 0x40, kind := 0x20, tag := 0, payload := [] }
        sending := true } }

/-! ### Well-formedness -/

theorem test_wf_accepts_longest_request : (Instr.setParam (request (List.replicate 239 0))).wf = true := by
  decide +kernel

theorem test_wf_refuses_long_request : (Instr.readIdent (request (List.replicate 240 0))).wf = false := by
  decide +kernel

theorem test_wf_refuses_no_intake_bytes : (Instr.intakeFrameReceived []).wf = false := by decide +kernel

theorem test_wf_refuses_no_lane_bytes : (Instr.laneFrameReceived []).wf = false := by decide +kernel

/-! ### Worked cases of the manual -/

/-- R160: the check with register 0xFFFF and polynomial 0x1021 of the nine digits, its published value. -/
theorem test_check_of_digits : crc [0x31, 0x32, 0x33, 0x34, 0x35, 0x36, 0x37, 0x38, 0x39] = 0x29B1 := by
  decide +kernel

/-- 00_scope.md 7.2: the high byte comes first. -/
theorem test_bytes_high_first : toBytes 3 0x0B2240 = [0x0B, 0x22, 0x40] ∧ be [0x0B, 0x22, 0x40] = 0x0B2240 := by
  decide +kernel

/-- Section 3.1: its table of distances ahead, and 65300 plus 1800. -/
theorem test_distances_ahead : ahead 65300 60 = 296 ∧ ahead 60 65300 = 65240 ∧ ahead 65480 134 = 190 ∧
    ahead 300 300 = 0 ∧ beyond 65300 1800 = 1564 := by
  decide +kernel

/-- Section 2.4, "overlapping ranges": the active table. -/
def overlapping (d : DefaultAllow) : State :=
  { State.reset with
    ranges :=
      { State.reset.ranges with
        ranges := (((resetRanges.set 2
            { valid := true, start := 0x0B2200, stop := 0x0B22FF, check := 0x0228
              primary := 0x0228, substitute := 0x0208 }).set 7
            { valid := true, start := 0x0B2000, stop := 0x0B2FFF, check := 0x0200
              primary := 0, substitute := 0 }).set 11
            { valid := true, start := 0x0B2220, stop := 0x0B225F, check := 0x0020
              primary := 0x0020, substitute := 0 }) }
    params := { Params.reset with defaultAllow := d } }

/-- Section 2.4: the answers for stock code 0x0B2240. -/
theorem test_permission_overlapping :
    refusalCause (overlapping .allow) 0x0B2240 0 .primary = none ∧
    refusalCause (overlapping .allow) 0x0B2240 3 .substitute = none ∧
    refusalCause (overlapping .allow) 0x0B2240 5 .primary = none ∧
    refusalCause (overlapping .allow) 0x0B2240 5 .substitute = some (.range 2) ∧
    refusalCause (overlapping .allow) 0x0B2240 9 .primary = some (.range 7) := by
  decide +kernel

/-- Section 2.4: with DEFAULT_ALLOW REFUSE. -/
theorem test_permission_default : refusalCause (overlapping .refuse) 0x0B2240 0 .primary = some .default ∧
    refusalCause (overlapping .refuse) 0x0B2300 9 .primary = some (.range 7) := by
  decide +kernel

/-- R79: its table of urgencies. -/
theorem test_urgency_table : urgency 9 12 = 1023 ∧ urgency 13 12 = 959 ∧ urgency 14 12 = 895 ∧
    urgency 20 12 = 511 ∧ urgency 27 12 = 63 ∧ urgency 28 12 = 0 := by
  decide +kernel

/-- Section 4.4, "one item against three orders": an order of the table, with one line of the units given. -/
def scored (slot cls due committed total : Nat) (lane : Lane) (position line : Nat) (kind : Kind) :
    Candidate :=
  { order :=
      { order with
        slot := slot, cls := cls, dueWave := due, position := some (lane, position)
        lines := [{ primary := 310, substitute := none, quantity := total, reserved := 0
                    placed := committed }] }
    lane := lane, position := position, line := line, kind := kind }

/-- Section 4.4: the line of the first worked case. -/
def threeOrders : State :=
  { State.reset with
    wave := { State.reset.wave with counter := 12 }
    params := { Params.reset with laneDist := ⟨1200, 1800, 2400, 6000, 7500, 9000, 10500, 12000⟩ } }

theorem test_score_three_orders :
    (scored 17 3 12 6 10 .l2 5 0 .primary).score threeOrders = 1623 ∧
    (scored 4 5 13 7 8 .l1 9 0 .substitute).score threeOrders = 1462 := by
  decide +kernel

/-- Section 4.4, "equal scores": the line of the second worked case. -/
def equalScores : State :=
  { State.reset with
    wave := { State.reset.wave with counter := 40 }
    params :=
      { Params.reset with
        distDiv := 8, laneDist := ⟨1500, 3000, 4500, 6000, 9000, 10500, 12000, 13000⟩ } }

theorem test_score_held_at_zero :
    (scored 9 1 38 10 12 .l5 3 0 .primary).score equalScores = 725 ∧
    (scored 9 1 38 10 12 .l5 3 4 .substitute).score equalScores = 469 ∧
    (scored 2 1 60 1 8 .l6 11 1 .substitute).score equalScores = 0 ∧
    (scored 14 1 40 10 12 .l7 1 2 .primary).score equalScores = 725 := by
  decide +kernel

/-- R133: its table of roundings. -/
theorem test_rounding_table : roundStart 0x0B2213 = 0x0B2210 ∧ roundEnd 0x0B22F0 = 0x0B22FF ∧
    roundStart 0x0B2305 = 0x0B2300 ∧ roundEnd 0x0B2309 = 0x0B230F ∧
    roundStart 0xFFFFF7 = 0xFFFFF0 ∧ roundEnd 0xFFFFFF = 0xFFFFFF := by
  decide +kernel

/-- R107: with the defaults the least EXIT_DIST is 13621. -/
theorem test_least_exit_dist : leastExitDist Params.reset = 13621 := by decide +kernel

/-- Section 9.6, "a burst": with 23 frames queued an event frame is the 24th, and with 24 it is lost. -/
theorem test_event_frames_stop_at_24 :
    (report { kind := .missedDivert } (queuedFrames 23)).link.txQueue.length = 24 ∧
    (report { kind := .strayItem } (queuedFrames 24)).link.txQueue.length = 24 ∧
    (report { kind := .strayItem } (queuedFrames 24)).link.seq = 1 := by
  decide +kernel

/-- Section 9.6: a request that finds 32 frames is dropped. -/
theorem test_full_queue_drops_request : ∃ t, exec (.readRefusal (request [])) (queuedFrames 32) = .next t ∧
    t.link.txQueue.length = 32 ∧ t.status.counters[20]? = some 1 :=
  ⟨_, rfl, by decide +kernel⟩

/-- Section 9.6, "sorting six frames": a SCAN of 9 bytes is a LINK_ERROR with detail 4. -/
theorem test_short_scan_is_link_error : ∃ t, exec (.intakeFrameReceived (Frame.bytes
      { dest := 0x40, source := 0x10, kind := 0x01, tag := 0, payload := List.replicate 9 0 }))
      State.reset = .next t ∧ t.status.flags = 0x01200000 ∧ t.status.counters[20]? = some 1 :=
  ⟨_, rfl, by decide +kernel⟩

/-- Section 9.6: an EVENT frame is counted foreign. -/
theorem test_event_is_foreign : ∃ t, exec (.intakeFrameReceived (Frame.bytes
      { dest := 0x40, source := 0x01, kind := 0x20, tag := 0, payload := [] }))
      State.reset = .next t ∧ t.status.counters[21]? = some 1 :=
  ⟨_, rfl, by decide +kernel⟩

/-- R178 and Section 9.8: the identity's first four bytes. -/
theorem test_read_ident : ∃ t, exec (.readIdent (request [])) State.reset = .next t ∧
    (t.link.txQueue.map fun f => f.payload.take 6) = [[0x01, 0x00, 0x0C, 0x08, 0x01, 0x40]] :=
  ⟨_, rfl, by decide +kernel⟩

/-- Section 6.3: a key at a position that is not the head's target is a wrong key, with the head's target as
detail. -/
theorem test_wrong_key : ∃ t, exec (.laneFrameReceived ([0xA6, 0x01, 0x02, 0x04, 0x00] ++
      crcBytes [0x01, 0x02, 0x04, 0x00])) line = .next t ∧
    t.status.counters[16]? = some 1 ∧ (t.link.txQueue.map fun f => f.payload.take 2) = [[11, 3]] :=
  ⟨_, rfl, by decide +kernel⟩

/-- Section 6.3: the key at the head's target confirms the unit. -/
theorem test_put_key : ∃ t, exec (.laneFrameReceived ([0xA6, 0x01, 0x02, 0x03, 0x00] ++
      crcBytes [0x01, 0x02, 0x03, 0x00])) line = .next t ∧
    t.status.counters[15]? = some 1 ∧ t.wall.chutes.l1 = [] ∧
    (t.book.orders.map fun o => (o.placedWeight, o.reservedWeight)) = [(100, 100)] :=
  ⟨_, rfl, by decide +kernel⟩

/-- R42: four pulses of the default PRESCALE make a count; this is the fourth. -/
theorem test_fourth_pulse_counts : ∃ t, exec .encoderPulse
      { State.reset with belt := { State.reset.belt with phase := 3, p := 65535 } } = .next t ∧
    t.belt.p = 0 ∧ t.belt.phase = 0 :=
  ⟨_, rfl, by decide +kernel⟩

/-- R92: the fire at P = F. -/
theorem test_fire : ∃ t, exec (.fire (.lane .l1)) (lineAt 1600) = .next t ∧
    (t.divert.queue.map (·.state)) = [.fired 1600 1720] ∧
    t.divert.arms.lanes.l1.output = some 1620 :=
  ⟨_, rfl, by decide +kernel⟩

/-- R144: an assertion of LINE_STOP gives the item up, and its unit is free again. -/
theorem test_line_stop : ∃ t, exec .lineStopAssert line = .next t ∧
    t.divert.armsLive = false ∧ (t.divert.queue.map (·.state)) = [.outbound .armsOff] ∧
    (t.book.orders.map (·.reservedWeight)) = [100] :=
  ⟨_, rfl, by decide +kernel⟩

/-- R102, R101: a DISABLED lane answers so. -/
theorem test_lane_disable : ∃ t, exec (.laneDisable (request [0x08])) State.reset = .next t ∧
    t.divert.laneStates.l8 = .disabled ∧
    (t.link.txQueue.map (·.payload)) = [[0x53, 0x00, 0x01, 0xFF]] :=
  ⟨_, rfl, by decide +kernel⟩

/-- R140, R149: after a reset RESUME alone is needed for the line to run. -/
theorem test_resume_runs : ∃ t, exec (.resume (request [])) State.reset = .next t ∧
    t.pause.state = .running ∧ t.pause.inductHold = false ∧ t.pause.pauseAck = false :=
  ⟨_, rfl, by decide +kernel⟩

/-- R103, R104: a jam takes the SCHEDULED item off its lane. -/
theorem test_lane_jam : ∃ t, exec (.laneJam (.lane .l1))
      { line with
        divert :=
          { line.divert with
            eyes := line.divert.eyes.set (.lane .l1) { blockStart := some 100, jamDue := true } } } =
      .next t ∧
    t.divert.laneStates.l1 = .jammed .enabled ∧
    (t.divert.queue.map (·.state)) = [.outbound .jam] :=
  ⟨_, rfl, by decide +kernel⟩

/-- R103, R104, R106: the count that reaches JAM_LEN jams the lane, though its pulse clears the eye. -/
theorem test_jam_before_clearing_edge : ∃ t, exec .encoderPulse
      { lineAt 399 with
        belt :=
          { phase := 3, p := 399
            eyes := line.belt.eyes.set (.chute (.lane .l1)) { blocked := true, count := 1 } }
        divert :=
          { line.divert with
            eyes := line.divert.eyes.set (.lane .l1) { blockStart := some 0, jamDue := false } } } =
      .next t ∧
    t.divert.laneStates.l1 = .enabled ∧ (t.divert.queue.map (·.state)) = [.outbound .jam] ∧
    t.status.flags &&& 0x3000 = 0x3000 :=
  ⟨_, rfl, by decide +kernel⟩

/-- R32: the group passes with the item into its chute entry. -/
theorem test_chute_entry_keeps_group : item.chuteEntry.group = some 10 := rfl

/-- R3, R5: an order of one line enters slot 0. -/
theorem test_load_order : ∃ t, exec (.loadOrder (request ([0, 0, 0, 7, 2, 0, 0, 1, 0, 5, 0x03, 0xE8, 1] ++
      [0, 10, 0xFF, 0xFF, 3]))) State.reset = .next t ∧
    (t.link.txQueue.map (·.payload)) =
      [[0x20, 0x00, 0x00, 0x01, 0x03, 0xE8, 0x00, 0x00, 0x07, 0xFF]] :=
  ⟨_, rfl, by decide +kernel⟩

/-! ### Laws of the fixtures -/

theorem line_bookLaw (s : State) (h : s.book = line.book) : BookLaw s := by
  constructor <;> rw [h]
  · decide
  · decide
  · decide
  · decide
  · decide
  · intro i
    simp [line, order]
  · decide
  · decide
  · intro o ho n p hp
    rw [List.mem_singleton.mp ho] at hp
    cases hp
    decide
  · decide

theorem line_claims_zero (s : State) (hq : s.divert.queue = line.divert.queue)
    (hc : s.wall.chutes = line.wall.chutes) : claims s 0 =
      [{ line := 0, grams := 100, layer := 1 }, { line := 0, grams := 100, layer := 1 }] := by
  rw [claims, State.chuteEntries, hq, hc]
  decide

theorem line_claims_succ (s : State) (hq : s.divert.queue = line.divert.queue)
    (hc : s.wall.chutes = line.wall.chutes) (i : Nat) : claims s (i + 1) = [] := by
  rw [claims, State.chuteEntries, hq, hc]
  rfl

theorem line_accountsLaw (s : State) (hb : s.book = line.book)
    (hq : s.divert.queue = line.divert.queue) (hc : s.wall.chutes = line.wall.chutes) :
    AccountsLaw s := by
  have ho : ∀ o ∈ s.book.orders, o = order := by
    intro o h
    rw [hb] at h
    exact List.mem_singleton.mp h
  constructor
  · intro o h i
    rw [ho o h, show order.slot = 0 from rfl, line_claims_zero s hq hc]
    cases i <;> rfl
  · intro o h
    rw [ho o h, show order.slot = 0 from rfl, line_claims_zero s hq hc]
    refine ⟨rfl, fun l => ?_⟩
    match l with
    | 0 => rfl
    | 1 => rfl
    | 2 => rfl
    | 3 => rfl
    | _ + 4 => rfl
  · intro o h
    rw [ho o h, show order.slot = 0 from rfl, line_claims_zero s hq hc]
    rfl
  · intro o h
    rw [ho o h]
    decide
  · intro o h
    rw [ho o h]
    decide
  · intro o h _
    exact Or.inl (by rw [ho o h]; rfl)
  · intro i h
    cases i with
    | zero => exact ⟨order, by rw [hb]; exact List.mem_singleton.mpr rfl, rfl⟩
    | succ i => exact absurd (line_claims_succ s hq hc i) h

theorem line_catalogueLaw (s : State) (h : s.catalogue = line.catalogue) : CatalogueLaw s := by
  constructor <;> rw [h] <;> decide

theorem line_paramsLaw (s : State) (h : s.params = Params.reset) (hb : s.belt.phase = 0) :
    ParamsLaw s := by
  constructor <;> rw [h] <;> first
    | decide
    | (rw [hb]; decide)
    | (intro n; cases n <;> decide)

theorem line_linkLaw : LinkLaw line := by constructor <;> decide

theorem line_statusLaw : StatusLaw line := by constructor <;> decide

theorem line_pauseLaw : PauseLaw line := by constructor <;> decide

theorem line_wallLaw : WallLaw line := by
  constructor
  · decide +kernel
  · intro _ h
    cases h

theorem line_armsLaw : ArmsLaw line := by
  constructor <;> first
    | decide
    | (intro h; cases h)

theorem line_firePositions (a : Arm) : line.firePositions a = [1600] ∨ line.firePositions a = [] := by
  rcases a with n | _
  · cases n
    · exact .inl (by decide)
    all_goals exact .inr (by decide)
  · exact .inr (by decide)

theorem line_scheduleLaw : ScheduleLaw line := by
  constructor
  · intro a
    rcases line_firePositions a with h | h <;> simp [h]
  · intro a
    rcases line_firePositions a with h | h <;> simp [h]
  · intro a _ _ l h
    rcases a with n | _
    · cases n <;> cases h
    · cases h

theorem line_eyesLaw : EyesLaw line := by
  constructor
  · rintro (n | _)
    · cases n <;> rfl
    · rfl
  · rintro (n | _) h
    · cases n <;> cases h
    · cases h
  · rintro (_ | n | _) _
    · rfl
    · cases n <;> rfl
    · rfl
  · intro h
    cases h

theorem line_chuteLaw : ChuteLaw line := by
  constructor <;> intro n <;> cases n <;> decide +kernel

theorem line_captureLaw : CaptureLaw line := by constructor <;> decide

theorem line_recircLaw : RecircLaw line := by constructor <;> decide

/-- A product table of 4096 records. -/
def fullCatalogue : List Product := (List.range 4096).map fun i => { product with code := i + 1 }

/-- The line with a full product table. -/
def fullLine : State := { line with catalogue := fullCatalogue }

theorem fullLine_catalogueLaw : CatalogueLaw fullLine := by
  constructor
  · exact Nat.le_of_eq (by simp [fullLine, fullCatalogue])
  · simp only [fullLine, fullCatalogue]
    refine List.pairwise_map.mpr (List.Pairwise.imp ?_ List.pairwise_lt_range)
    intro a b h
    exact Nat.succ_lt_succ h
  · intro r hr
    simp only [fullLine, fullCatalogue, List.mem_map, List.mem_range] at hr
    obtain ⟨i, hi, rfl⟩ := hr
    simp only [product]
    omega

/-- A book of `n` QUEUED orders in the slots from 0. -/
def bookOf (n : Nat) : OrderBook :=
  { orders := (List.range n).map fun i => { order with slot := i, number := i + 1 }
    freeLines := 2048 - n, queued := [] }

/-! ### Hypotheses met: the queue, resets, the links -/

theorem witness_StepTakesFrontCommand : State.reset.pending = [] := rfl

theorem witness_ResetKindsGiveResetState :
    ({ line with link := { line.link with resetWait := .sent } } : State).link.resetWait = .sent ∧
    line.link.resetWait ≠ .sent := by decide

theorem witness_ResetEndStartsPart : held.inReset = true ∧ held.wall = (heldState 0 held).wall ∧
    line.inReset = false ∧ line.pins = Pins.released := by decide +kernel

theorem witness_HeldPartTakesNoEvent : held.inReset = true ∧ Instr.isReset .encoderPulse = false ∧
    ∀ straps, Instr.encoderPulse ≠ .resetEnd straps := by
  refine ⟨rfl, rfl, fun straps h => ?_⟩
  cases h

theorem witness_RequestFrameIsItsCommand :
    (Instr.setParam (request (List.replicate 239 0))).request? =
      some (0x10, request (List.replicate 239 0)) ∧
    (Instr.setParam (request (List.replicate 239 0))).wf = true ∧ line.link.rx = .hunting :=
  ⟨rfl, by decide +kernel, rfl⟩

theorem witness_RequestsPassTheCommonChecks :
    (Instr.readOrder (request [0, 0, 0])).request? = some (0x23, request [0, 0, 0]) ∧
    ¬ Hears held ∧ (Hears (queuedFrames 32) ∧ 32 ≤ (queuedFrames 32).link.txQueue.length) ∧
    (Hears (queuedFrames 31) ∧ (queuedFrames 31).link.txQueue.length < 32 ∧
      (stranger []).source ≠ (queuedFrames 31).params.controlNode) ∧
    (Accepts (request [0, 0, 0]) (queuedFrames 31) ∧
      (Instr.readOrder (request [0, 0, 0])).lengthFits = false) :=
  ⟨rfl, by decide, by decide, by decide, by decide⟩

/-- A frame to the part's node. -/
def frame (kind source : Byte) (payload : List Byte) : Frame :=
  { dest := 0x40, source := source, kind := kind, tag := 0, payload := payload }

/-- Two check bytes that differ from a frame's. -/
theorem wrong_check (f : Frame) : ∃ hi lo : Byte, [hi, lo] ≠ crcBytes f.covered := by
  by_cases h : ([0, 0] : List Byte) = crcBytes f.covered
  · exact ⟨0, 1, fun h2 => absurd (h.trans h2.symm) (by decide)⟩
  · exact ⟨0, 0, h⟩

theorem witness_DamagedFramesAreDropped : (Hears line ∧ line.link.rx = .hunting ∧
    (frame 0x01 0x10 (List.replicate 240 0)).payload.length ≤ 240) ∧
    (∃ hi lo : Byte, [hi, lo] ≠ crcBytes (frame 0x01 0x10 (List.replicate 240 0)).covered) ∧
    240 < 256 * (0 : Byte).toNat + (241 : Byte).toNat ∧
    (∀ b ∈ ([0xA4, 0xA6] : List Byte), b ≠ 0xA5) ∧
    line.inReset = false ∧ line.wall.rx = .hunting ∧
    ([0, 0] : List Byte) ≠ crcBytes [1, 2, 3, 0] ∧
    (¬ (1 ≤ (9 : Byte).toNat ∧ (9 : Byte).toNat ≤ 8) ∧ (0x01 : Byte) ≠ 0x02 ∧
      (15 < (16 : Byte).toNat ∧ (16 : Byte) ≠ 0xFF) ∧ (1 : Byte) ≠ 0) ∧
    ∀ b ∈ ([0xA5, 0xA7] : List Byte), b ≠ 0xA6 :=
  ⟨⟨by decide, rfl, by decide +kernel⟩, wrong_check _, by decide +kernel⟩

theorem witness_GoodFramesAreSorted : Hears line ∧ line.link.rx = .hunting ∧
    (List.replicate 240 (0 : Byte)).length ≤ 240 ∧
    { frame 0x10 0x01 [] with dest := 0x41 }.dest ≠ line.link.node ∧
    (frame 0x01 0x11 []).dest = line.link.node ∧
    (frame 0x01 0x11 []).source ≠ line.params.tunnelNode ∧
    ((frame 0x01 0x10 (List.replicate 9 0)).source = line.params.tunnelNode ∧
      (frame 0x01 0x10 (List.replicate 9 0)).payload.length ≠ 10) ∧
    (frame 0x01 0x10 (List.replicate 10 0)).payload.length = 10 ∧
    ((frame 0x11 0x01 []).kind = 0x11 ∧ (frame 0x20 0x01 []).kind = 0x20) ∧
    ((0x12 : Byte) ≠ 0x01 ∧ (0x12 : Byte) ≠ 0x10 ∧ (0x12 : Byte) ≠ 0x11 ∧ (0x12 : Byte) ≠ 0x20) ∧
    ((frame 0x10 0x01 []).source = line.params.controlNode ∧ line.link.txQueue.length < 32) ∧
    (Hears (queuedFrames 32) ∧ 32 ≤ (queuedFrames 32).link.txQueue.length ∧
      Hears (queuedFrames 31) ∧ (queuedFrames 31).link.txQueue.length < 32 ∧
      (frame 0x10 0x22 []).source ≠ (queuedFrames 31).params.controlNode) ∧
    (0x7E : Byte).toNat ∉ requestCodes := by
  decide +kernel

theorem witness_FrameSentLeavesQueue :
    ((queuedFrames 1).inReset = false ∧ (queuedFrames 1).link.txQueue ≠ [] ∧
      (queuedFrames 1).link.sending = true) ∧
    ((queuedFrames 32).link.txQueue ≠ [] ∧ (queuedFrames 32).link.sending = true) ∧
    line.link.sending = false ∧
    Accepts (request []) line ∧ (request []).body = [] ∧ line.link.txQueue = [] := by
  decide

theorem witness_ReportSetsFlagAndOffersFrame :
    ({ Params.reset with reportMask := 0x1FFFFF }.reportMask.getLsbD (codeOfEvent .linkError) = false) ∧
    ((queuedFrames 23).params.reportMask.getLsbD (codeOfEvent .linkError) = true ∧
      (queuedFrames 23).link.txQueue.length ≤ 23 ∧ (queuedFrames 23).link.resetWait = .idle) ∧
    23 < (queuedFrames 24).link.txQueue.length := by
  decide

theorem witness_StatusReadsAnswerWhatStands : Accepts (request []) line ∧ (request []).body = [] := by
  decide

theorem witness_FlagsAndCountersAreReadAndCleared :
    (Accepts (request [7, 0xFF, 0xFF, 0xFF]) line ∧ (request [7, 0xFF, 0xFF, 0xFF]).body.length = 4) ∧
    (Accepts (request [22, 1, 0]) line ∧ (request [22, 1, 0]).body.length = 3 ∧
      21 < (request [22, 1, 0]).num 0 1) ∧
    (request [0, 0, 0]).num 1 1 = 0 ∧
    22 < (request [21, 2, 0]).num 0 1 + (request [21, 2, 0]).num 1 1 ∧
    1 < (request [0, 1, 2]).num 2 1 ∧
    (Accepts (request [21, 1, 1]) line ∧ (request [21, 1, 1]).num 0 1 ≤ 21 ∧
      (request [21, 1, 1]).num 1 1 ≠ 0 ∧
      (request [21, 1, 1]).num 0 1 + (request [21, 1, 1]).num 1 1 ≤ 22 ∧
      (request [21, 1, 1]).num 2 1 ≤ 1) := by
  decide

/-! ### Hypotheses met: parameters and tables -/

/-- The line with ARMS_LIVE clear and its item gone. -/
def stopped : State :=
  { line with divert := { line.divert with armsLive := false, queue := [{ item with state := .fired 1 2 }] } }

/-- The line at a lock level. -/
def locked (level : Nat) : State := { stopped with params := { Params.reset with lockLevel := level } }

theorem witness_SetParamStoresValueUsed :
    (Accepts (request [0x01, 0, 0, 0, 0, 17]) stopped ∧ ParamsLaw stopped ∧
      (request [0x01, 0, 0, 0, 0, 17]).body.length = 6 ∧
      paramOf ((request [0x01, 0, 0, 0, 0, 17]).num 0 1) 0 = some .prescale ∧
      Param.isChoice .prescale = false ∧
      lockForbids stopped.params.lockLevel (Param.lockClass .prescale) = false ∧
      stopped.divert.armsLive = false ∧ belowLoad stopped 16 .prescale = false) ∧
    (paramOf 0x11 0 = some .armDwell ∧ paramOf 0x14 0 = some .pairMin ∧
      paramOf 0x07 0 = some .capturePolarity ∧ paramOf 0x08 0 = some .lanePolarity ∧
      paramOf 0x09 0 = some .eyeFilter ∧ paramOf 0x15 0 = some .pairMax ∧
      paramOf 0x06 8 = some (.laneClasses .l8)) ∧
    (paramOf 0x05 1 = some (.chuteCap .l1) ∧ belowLoad stopped 2 (.chuteCap .l1) = false) :=
  ⟨⟨by decide, line_paramsLaw _ rfl rfl, by decide, by decide, by decide, by decide, by decide,
    by decide⟩, by decide, by decide⟩

theorem witness_LocksAndChecksRefuseWrites :
    (Accepts (request [0x02, 9, 0, 0, 0, 0]) stopped ∧
      (request [0x02, 9, 0, 0, 0, 0]).body.length = 6 ∧ paramNamed 0x02 9 = false) ∧
    (paramOf 0x18 0 = some .defaultAllow ∧ Param.isChoice .defaultAllow = true ∧
      1 < (request [0x18, 0, 0, 0, 0, 2]).num 2 4) ∧
    (Param.lockClass .prescale = .geometry ∧ 1 ≤ (locked 1).params.lockLevel) ∧
    (Param.lockClass .pairMax = .timing ∧ 2 ≤ (locked 2).params.lockLevel) ∧
    (lockForbids line.params.lockLevel (Param.lockClass .prescale) = false ∧
      Param.lockClass .prescale ≠ .free ∧ line.divert.armsLive = true) ∧
    ((locked 0).params.lockLevel = 0 ∧ (locked 0).divert.armsLive = false ∧
      max 1 (min 8 ((request [0x05, 1, 0, 0, 0, 1]).num 2 4)) < (locked 0).committed .l1) ∧
    (Accepts (request [3]) stopped ∧ (request [3]).body.length = 1 ∧ 2 < (request [3]).num 0 1) ∧
    ((request [1]).num 0 1 ≤ 2 ∧ (request [1]).num 0 1 < (locked 2).params.lockLevel) ∧
    ((request [2]).num 0 1 ≤ 2 ∧ (locked 2).params.lockLevel ≤ (request [2]).num 0 1) := by
  decide

theorem witness_TableReadsAnswerWhatStands :
    (Accepts (request [0x25, 0]) line ∧ (request [0x25, 0]).body.length = 2 ∧
      paramOf 0x25 0 = some .reportMask ∧ paramOf 0x25 1 = none) ∧
    (1 < (request [2, 0]).num 0 1 ∧ 23 < (request [0, 24]).num 1 1 ∧
      ((request [1, 23]).num 0 1 ≤ 1 ∧ (request [1, 23]).num 1 1 ≤ 23 ∧
        line.wave.ranges[23]? = some RangeEntry.reset)) ∧
    (15 < (request [0, 16]).num 1 1 ∧ line.ranges.classes[15]? = some ClassEntry.reset) ∧
    (¬ (1 ≤ (request [9, 1]).num 0 1 ∧ (request [9, 1]).num 0 1 ≤ 8 ∧
        1 ≤ (request [9, 1]).num 1 1 ∧ (request [9, 1]).num 1 1 ≤ 15) ∧
      laneNumber .l8 = (request [8, 15]).num 0 1 ∧ (request [8, 15]).num 1 1 ≤ 15) ∧
    ((request [0, 0, 0, 7]).body.length = 4 ∧ (request [0, 0, 0, 7]).num 0 4 ≠ 0 ∧
      line.book.byNumber ((request [0, 0, 0, 7]).num 0 4) = some order) ∧
    ((request [0xFF, 0xFF, 0xFF]).body.length = 3 ∧ (request [0xFF, 0xFF, 0xFF]).num 0 3 = 0xFFFFFF ∧
      4095 < (request [0x10, 0x00]).num 0 2) ∧
    ((request [0, 0, 6]).num 0 3 ≠ 0 ∧ (∀ r ∈ line.catalogue, r.code ≠ (request [0, 0, 6]).num 0 3) ∧
      line.catalogue.length ≤ (request [0, 1]).num 0 2) ∧
    (CatalogueLaw line ∧ product ∈ line.catalogue ∧ product.code = (request [0, 0, 5]).num 0 3 ∧
      line.catalogue[(request [0, 0]).num 0 2]? = some product) :=
  ⟨by decide, by decide, by decide, by decide, by decide, by decide, by decide,
    line_catalogueLaw _ rfl, by decide, by decide, by decide⟩

/-- A LOAD_PRODUCT or DELETE_PRODUCT body for a stock code. -/
def productBody (code : Nat) : List Byte := toBytes 3 code ++ [0, 10, 1, 0, 100, 51, 0]

theorem fullLine_lookup_none : lookup 4097 fullLine.catalogue = none := by
  refine List.find?_eq_none.mpr fun r hr => ?_
  simp only [fullLine, fullCatalogue, List.mem_map, List.mem_range] at hr
  obtain ⟨i, hi, rfl⟩ := hr
  show ¬ (i + 1 == 4097) = true
  simp only [beq_iff_eq]
  omega

theorem witness_ProductsAreLoadedAndDeleted :
    (Accepts (request (productBody 0xFFFFFF)) line ∧ CatalogueLaw line ∧
      (request (productBody 0xFFFFFF)).body.length = 10 ∧
      (request (productBody 0xFFFFFF)).num 0 3 = 0xFFFFFF) ∧
    (Accepts (request (productBody 4097)) fullLine ∧ CatalogueLaw fullLine ∧
      (request (productBody 4097)).num 0 3 ≠ 0 ∧ (request (productBody 4097)).num 0 3 ≠ 0xFFFFFF ∧
      (request (productBody 4097)).num 3 2 ≤ 1023 ∧ (request (productBody 4097)).num 5 1 ≤ 3 ∧
      (request (productBody 4097)).num 6 2 ≠ 0 ∧ (request (productBody 4097)).num 6 2 ≠ 0xFFFF ∧
      lookup 4097 fullLine.catalogue = none ∧ 4096 ≤ fullLine.catalogue.length) ∧
    ((lookup ((request (productBody 5)).num 0 3) line.catalogue).isSome = true ∧
      lookup ((request (productBody 6)).num 0 3) line.catalogue = none ∧
      line.catalogue.length < 4096) ∧
    ((request [0, 0, 0]).body.length = 3 ∧ (request [0, 0, 0]).num 0 3 = 0 ∧
      (request [0, 0, 5]).num 0 3 = product.code) :=
  ⟨⟨by decide, line_catalogueLaw _ rfl, by decide, by decide⟩,
    ⟨by decide, fullLine_catalogueLaw, by decide, by decide, by decide, by decide, by decide,
      by decide, fullLine_lookup_none, Nat.le_of_eq (by simp [fullLine, fullCatalogue])⟩,
    by decide, by decide⟩

/-- A STAGE_RANGE body. -/
def rangeBody (index valid : Byte) (start stop : Nat) : List Byte :=
  [index, valid] ++ toBytes 3 start ++ toBytes 3 stop ++ [0, 0, 0, 0, 0, 0]

theorem witness_StagingReplacesStagedEntry :
    (Accepts (request (rangeBody 24 0 0 0)) line ∧ (request (rangeBody 24 0 0 0)).body.length = 14 ∧
      23 < (request (rangeBody 24 0 0 0)).num 0 1 ∧ 1 < (request (rangeBody 0 2 0 0)).num 1 1 ∧
      (request (rangeBody 0 0 17 16)).num 5 3 < (request (rangeBody 0 0 17 16)).num 2 3) ∧
    ((request (rangeBody 23 1 16 16)).num 0 1 ≤ 23 ∧ (request (rangeBody 23 1 16 16)).num 1 1 ≤ 1 ∧
      (request (rangeBody 23 1 16 16)).num 2 3 ≤ (request (rangeBody 23 1 16 16)).num 5 3) ∧
    ((request [16, 0, 0]).body.length = 3 ∧ 15 < (request [16, 0, 0]).num 0 1 ∧
      1 < (request [0, 0, 2]).num 2 1 ∧ (request [15, 255, 1]).num 0 1 ≤ 15 ∧
      (request [15, 255, 1]).num 2 1 ≤ 1) := by
  decide

theorem witness_PermissionNeedsEveryRelevantRange :
    (∃ r, (overlapping .allow).ranges.ranges[2]? = some r ∧ r.valid = true ∧ r.start ≤ 0x0B2200 ∧
      0x0B2200 ≤ r.stop ∧ r.check.getLsbD 3 = true) ∧
    ∀ r ∈ (overlapping .allow).ranges.ranges, ¬ (r.valid = true ∧ r.start ≤ 0x0B3000 ∧
      0x0B3000 ≤ r.stop ∧ r.check.getLsbD 3 = true) :=
  ⟨⟨_, rfl, by decide⟩, by decide⟩

theorem witness_RefusalRecordKeepsTheFirst : line.ranges.record = none ∧
    ({ line.ranges with record := some { stock := 5, cls := 2, kind := .primary, cause := .default
                                         wave := 0, order := 7 } } : ClassRangeUnit).record ≠ none ∧
    Accepts (request []) line ∧ (request []).body = [] := by
  decide

/-! ### Hypotheses met: waves and orders -/

/-- The line in a pause state. -/
def paused (st : PauseState) : State := { line with pause := line.pause.move st }

theorem witness_AdvanceIsPerformedLatchedOrBusy : Accepts (request []) line ∧
    ({ line.wave with latch := .requested } : WaveUnit).latch ≠ .notHeld ∧
    (line.wave.latch = .notHeld ∧ line.pause.state = .held) ∧
    (Accepts (request []) (paused .running) ∧ (paused .running).wave.latch = .notHeld ∧
      (paused .running).pause.state ≠ .held) := by
  decide

theorem witness_WaveCounterNeverFalls : (∃ t, exec .powerOn line = .next t) ∧
    ({ line.wave with counter := 65535 } : WaveUnit).counter ≤ 65535 :=
  ⟨⟨_, rfl⟩, by decide⟩

/-- A LOAD_ORDER body of one line. -/
def orderBody (number cls quantity : Byte) : List Byte :=
  [0, 0, 0, number, cls, 1, 0, 1, 0, 5, 0x03, 0xE8, 1, 0, 10, 0xFF, 0xFF, quantity]

/-- The line with another Order Book. -/
def lineOf (b : OrderBook) : State := { line with book := b }

theorem bookOf_slot {n k : Nat} (h : k < n) : ∃ o ∈ (bookOf n).orders, o.slot = k :=
  ⟨{ order with slot := k, number := k + 1 }, List.mem_map.mpr ⟨k, List.mem_range.mpr h, rfl⟩, rfl⟩

theorem bookOf_free {n : Nat} (o : Order) (h : o ∈ (bookOf n).orders) : o.slot ≠ n := by
  obtain ⟨i, hi, rfl⟩ := List.mem_map.mp h
  exact Nat.ne_of_lt (List.mem_range.mp hi)

theorem orderFieldsGood_of_body : orderFieldsGood (request (orderBody 9 15 15)) := by
  refine ⟨by decide, by decide, by decide, by decide, by decide, ?_⟩
  intro i hi
  have h : i = 0 := Nat.lt_one_iff.mp (show i < 1 from hi)
  subst h
  decide

theorem witness_LoadOrderIsCheckedAndEntered :
    (Accepts (request (orderBody 9 16 15)) line ∧
      (request (orderBody 9 16 15)).loadLengthFits = true ∧
      ¬ orderFieldsGood (request (orderBody 9 16 15))) ∧
    (orderFieldsGood (request (orderBody 9 15 15)) ∧
      (request (orderBody 9 15 15)).loadLengthFits = true ∧
      (∃ o ∈ (lineOf (bookOf 9)).book.orders, o.number = 9) ∧
      (∀ o ∈ (lineOf (bookOf 8)).book.orders, o.number ≠ 9)) ∧
    (∀ k, k < 256 → ∃ o ∈ (lineOf (bookOf 256)).book.orders, o.slot = k) ∧
    lowestEmpty (lineOf (bookOf 255)).book 255 ∧
    (request (orderBody 9 15 15)).num 12 1 ≤ (lineOf (bookOf 255)).book.freeLines :=
  ⟨⟨by decide, by decide, fun h => absurd h.2.1 (by decide)⟩,
    ⟨orderFieldsGood_of_body, by decide, ⟨{ order with slot := 8, number := 9 }, by decide, rfl⟩, by decide⟩,
    fun _ h => bookOf_slot h,
    ⟨by decide, fun o h => bookOf_free o h, fun _ h => bookOf_slot h⟩, by decide⟩

/-- The line whose one order has another state and no position. -/
def unbound (st : OrderState) : State :=
  lineOf { line.book with orders := [{ order with state := st, position := none }] }

theorem witness_CancelEmptiesUnboundOrder :
    (Accepts (request [0, 0, 0, 0]) line ∧ (request [0, 0, 0, 0]).body.length = 4 ∧
      (request [0, 0, 0, 0]).num 0 4 = 0) ∧
    (∀ o ∈ line.book.orders, o.number ≠ (request [0, 0, 0, 8]).num 0 4) ∧
    (Accepts (request [0, 0, 0, 7]) (unbound .staged) ∧ (request [0, 0, 0, 7]).num 0 4 ≠ 0 ∧
      ((unbound .staged).book.byNumber 7).map (·.state) = some .staged ∧
      ((unbound .queued).book.byNumber 7).map (·.state) = some .queued ∧
      ((unbound .complete).book.byNumber 7).map (·.state) = some .complete ∧
      ((unbound .cancelled).book.byNumber 7).map (·.state) = some .cancelled) := by
  decide

theorem witness_CancelInFlightGivesUpItems : Accepts (request [0, 0, 0, 7]) line ∧ BookLaw line ∧
    AccountsLaw line ∧ (request [0, 0, 0, 7]).body.length = 4 ∧
    (request [0, 0, 0, 7]).num 0 4 ≠ 0 ∧
    line.book.byNumber ((request [0, 0, 0, 7]).num 0 4) = some order ∧ order.state = .opened :=
  ⟨by decide, line_bookLaw _ rfl, line_accountsLaw _ rfl rfl rfl, by decide, by decide, by decide,
    rfl⟩

theorem witness_ShortCloseCompletesOrShorts : Accepts (request [0, 0, 0, 7]) line ∧
    line.book.byNumber ((request [0, 0, 0, 7]).num 0 4) = some order ∧ order.state = .opened ∧
    (order.lines.map (·.reserved)).sum ≠ 0 ∧
    (({ order with lines := [] } : Order).lines.map (·.reserved)).sum = 0 := by
  decide

theorem witness_ReservationAccountsAreKept : line.book.atSlot 1 = none ∧
    line.book.atSlot 0 = some order ∧ order.state = .opened ∧
    (∃ x ∈ order.lines, x.placed ≠ x.quantity) ∧
    (∀ x ∈ ({ order with lines := [{ primary := 10, substitute := none, quantity := 3, reserved := 0
                                     placed := 3 }] } : Order).lines, x.placed = x.quantity) ∧
    (order.lines.map (·.reserved)).sum ≠ 0 ∧
    (({ order with lines := [] } : Order).lines.map (·.reserved)).sum = 0 := by
  decide

/-- The line with one QUEUED order. -/
def waiting : State :=
  lineOf
    { orders := [{ order with state := .queued, position := none }], freeLines := 2047, queued := [0] }

theorem waiting_bookLaw : BookLaw waiting := by
  constructor
  · decide
  · decide
  · decide
  · decide
  · decide
  · intro i
    simp [waiting, lineOf, order, eq_comm]
  · decide
  · decide
  · intro o ho n p hp
    rw [List.mem_singleton.mp ho] at hp
    cases hp
  · decide

theorem witness_BinderLeavesNoMatchUnbound :
    (BookLaw line ∧ line.laneEnabled .l8 = true ∧ line.book.boundAt .l8 15 = none ∧
      (∀ o ∈ line.book.orders, o.state ≠ .staged) ∧ ∀ k, k ∉ line.book.queued) ∧
    (BookLaw waiting ∧ waiting.laneEnabled .l1 = true ∧ waiting.book.boundAt .l1 1 = none ∧
      waiting.book.queued = [] ++ 0 :: [] ∧
      (∃ o, waiting.book.atSlot 0 = some o ∧
        (waiting.params.laneClasses.get .l1).getLsbD o.cls = true) ∧
      ∀ m r, 1 ≤ r → ¬ (laneNumber m < laneNumber .l1 ∨ (m = .l1 ∧ r < 1))) ∧
    ∃ o ∈ (unbound .staged).book.orders, o.state = .staged := by
  refine ⟨⟨line_bookLaw _ rfl, by decide, by decide, by decide, by decide⟩,
    ⟨waiting_bookLaw, by decide, by decide, rfl, ⟨_, rfl, by decide⟩, fun m r hr h => ?_⟩,
    ⟨_, List.mem_singleton.mpr rfl, rfl⟩⟩
  cases m <;> simp [laneNumber] at h <;> omega

/-! ### Hypotheses met: the Divert Scheduler -/

/-- The line with lane 1's arm record and chute eye set. -/
def armed (r : ArmRec) (e : ChuteEye) : State :=
  { line with
    divert :=
      { line.divert with
        arms := line.divert.arms.set (.lane .l1) r, eyes := line.divert.eyes.set (.lane .l1) e } }

theorem witness_ArmsFireDwellAndLapse :
    ((lineAt 1600).inReset = false ∧ (lineAt 1600).divert.queue = [] ++ item :: [] ∧
      item.dest.arm = some (.lane .l1) ∧ item.state = .scheduled (lineAt 1600).belt.p) ∧
    (∀ x ∈ (lineAt 1601).divert.queue, x.dest.arm = some (.lane .l1) →
      x.state ≠ .scheduled (lineAt 1601).belt.p) ∧
    ((armed { lastFire := some 480, output := some 500, lapseDue := true }
        { blockStart := none, jamDue := false }).divert.arms.get (.lane .l1)).output =
      some line.belt.p ∧
    ((armed { lastFire := some 480, output := some 500, lapseDue := true }
        { blockStart := none, jamDue := false }).divert.arms.get (.lane .l1)).lapseDue = true ∧
    ((line.divert.arms.get .reject).output ≠ some line.belt.p ∧
      (line.divert.arms.get .reject).lapseDue = false) := by
  decide

theorem witness_MissedEntryGoesOutbound : (lineWith 1720 (.fired 1600 1720)).inReset = false ∧
    (lineWith 1720 (.fired 1600 1720)).divert.queue =
      [] ++ { item with state := .fired 1600 1720 } :: [] ∧
    (∀ x ∈ (lineAt 1720).divert.queue, x.tag = 4 → ∀ g, x.state ≠ .fired g (lineAt 1720).belt.p) := by
  refine ⟨rfl, rfl, fun x hx _ g h => ?_⟩
  rw [List.mem_singleton.mp hx] at h
  cases h

theorem witness_ExitCountsAPass :
    ((lineWith 15100 (.outbound .missed)).divert.queue =
        [] ++ { item with state := .outbound .missed } :: [] ∧
      item.exitAt = (lineWith 15100 (.outbound .missed)).belt.p ∧
      (lineWith 15100 (.outbound .missed)).inReset = false) ∧
    (∀ x ∈ (lineAt 15100).divert.queue, x.tag = 4 → x.exitAt = (lineAt 15100).belt.p →
      ∀ g, x.state ≠ .outbound g) ∧
    (line.recirc = [] ++ { carrier := 9, passes := 3 } :: [] ∧ (∀ x ∈ line.recirc, x.carrier ≠ 8) ∧
      line.recirc.length < 64) ∧
    ((∀ x ∈ (List.range 64).map fun i => ({ carrier := i + 1, passes := 1 } : Recirc),
        x.carrier ≠ 65) ∧
      64 ≤ ((List.range 64).map fun i => ({ carrier := i + 1, passes := 1 } : Recirc)).length) := by
  refine ⟨⟨rfl, rfl, rfl⟩, fun x hx _ _ g h => ?_, by decide, by decide⟩
  rw [List.mem_singleton.mp hx] at h
  cases h

/-- The line with the reject eye due to jam. -/
def rejectDue : State :=
  { line with
    divert := { line.divert with eyes := line.divert.eyes.set .reject { blockStart := some 0, jamDue := true } } }

theorem witness_JamGivesUpScheduledEntries :
    ((armed ArmRec.reset { blockStart := some 0, jamDue := true }).inReset = false ∧
      (armed ArmRec.reset { blockStart := some 0, jamDue := true }).divert.eyes.get (.lane .l1) =
        { blockStart := some 0, jamDue := true } ∧
      (armed ArmRec.reset { blockStart := some 0, jamDue := true }).divert.laneStates.get .l1 =
        .enabled) ∧
    (rejectDue.divert.eyes.get .reject = { blockStart := some 0, jamDue := true } ∧
      rejectDue.divert.rejectJammed = false) ∧
    (line.divert.eyes.get (.lane .l1)).blockStart = none := by
  decide

/-- A reject entry that has fired. -/
def rejectFired : Entry := { item with dest := .reject .double, state := .fired 400 520 }

/-- A chute list of 16 STRAY entries. -/
def strays : List ChuteEntry := List.replicate 16 { chuteItem with kind := .stray }

theorem witness_ChuteEyeConfirmsOldestFired :
    ((lineWith 1700 (.fired 1600 1720)).divert.queue =
        [] ++ { item with state := .fired 1600 1720 } :: [] ∧
      ({ item with state := .fired 1600 1720 } : Entry).awaits (.lane .l1) = true ∧
      ((lineWith 1700 (.fired 1600 1720)).wall.chutes.get .l1).length < 16) ∧
    (∀ x ∈ line.divert.queue, x.awaits (.lane .l1) = false) ∧
    (([rejectFired] : List Entry) = [] ++ rejectFired :: [] ∧ rejectFired.awaits .reject = true) ∧
    (∀ x ∈ line.divert.queue, x.awaits .reject = false) ∧
    (strays = [] ++ { chuteItem with kind := .stray } :: strays.tail ∧ 16 ≤ strays.length) ∧
    (rejectDue.inReset = false ∧ (rejectDue.divert.eyes.get .reject).jamDue = true) ∧
    (line.jammed (.lane .l1) = false ∧ (line.divert.eyes.get (.lane .l1)).jamDue = false) ∧
    (line.divert.rejectJammed = false ∧ (line.divert.eyes.get .reject).jamDue = false) ∧
    ((line.divert.laneStates.set .l8 (.jammed .disabled)).get .l8 = .jammed .disabled ∧
      (line.divert.laneStates.set .l8 (.jammed .enabled)).get .l8 = .jammed .enabled) := by
  decide

/-- The line with LINE_STOP asserted. -/
def stoppedLine : State := { stopped with pause := { stopped.pause with stopAsserted := true } }

theorem witness_ArmsAreSetAndCleared : Accepts (request []) stoppedLine ∧
    stoppedLine.pause.stopAsserted = true ∧
    (Accepts (request []) stopped ∧ stopped.pause.stopAsserted = false ∧
      stopped.divert.armsLive = false) ∧
    (13620 < max stopped.params.rejectDist 12000 + stopped.params.confirmWindow + 1 ∧
      max stopped.params.rejectDist 12000 + stopped.params.confirmWindow + 1 ≤
        stopped.params.exitDist) ∧
    (Accepts (request []) line ∧ line.divert.armsLive = true) := by
  decide

theorem witness_LanesAreEnabledAndDisabled :
    (Accepts (request [9]) line ∧ (request [9]).body.length = 1 ∧ 8 < (request [9]).num 0 1 ∧
      (request [0]).num 0 1 = 0) ∧
    (Accepts (request [8]) line ∧ laneNumber .l8 = (request [8]).num 0 1 ∧
      line.divert.laneStates.get .l8 = .enabled ∧
      (line.divert.laneStates.set .l8 .disabled).get .l8 = .disabled ∧
      (line.divert.laneStates.set .l8 (.jammed .enabled)).get .l8 = .jammed .enabled) := by
  decide

/-! ### Hypotheses met: the belt and the captures -/

/-- The line with phase, EYE_CAP's input and filter set. -/
def pulsed (phase count : Nat) (high : Bool) : State :=
  { line with
    belt := { line.belt with phase := phase, eyes := line.belt.eyes.set .cap { blocked := false, count := count } }
    pins := { line.pins with eyes := line.pins.eyes.set .cap high } }

theorem pulsed_nothingDue (phase count : Nat) (high : Bool) : NothingDue (pulsed phase count high) := by
  have hq : ∀ e ∈ (pulsed phase count high).divert.queue, e = item :=
    fun e he => List.mem_singleton.mp he
  constructor
  · show ∀ c ∈ line.capture.list, line.age c ≤ line.params.pairMax
    decide
  · intro e he
    rw [hq e he]
    show EntryState.scheduled 1600 ≠ .scheduled 500
    decide
  · rintro (n | _)
    · cases n <;> exact nofun
    · exact nofun
  · rintro (n | _)
    · cases n <;> rfl
    · rfl
  · intro e he f
    rw [hq e he]
    exact nofun
  · intro e he r h
    rw [hq e he] at h
    cases h
  · rintro (n | _)
    · cases n <;> rfl
    · rfl

theorem pulsed_agree (phase count : Nat) (high : Bool) (d : Eye) (h : d ≠ .cap) :
    (pulsed phase count high).rawLevel d = ((pulsed phase count high).belt.eyes.get d).blocked := by
  rcases d with _ | n | _
  · exact absurd rfl h
  · cases n <;> rfl
  · rfl

theorem witness_EncoderPulseCountsAndFilters :
    ((pulsed 3 0 true).inReset = false ∧
      (pulsed 3 0 true).belt.phase + 1 = (pulsed 3 0 true).params.prescale ∧
      NothingDue (pulsed 3 0 true)) ∧
    (∀ e, (pulsed 3 0 true).rawLevel e ≠ ((pulsed 3 0 true).belt.eyes.get e).blocked →
      ((pulsed 3 0 true).belt.eyes.get e).count + 1 < (pulsed 3 0 true).params.eyeFilter) ∧
    ((pulsed 2 1 true).belt.phase + 1 ≠ (pulsed 2 1 true).params.prescale ∧
      (pulsed 2 1 true).rawLevel .cap ≠ ((pulsed 2 1 true).belt.eyes.get .cap).blocked ∧
      (pulsed 2 1 true).params.eyeFilter ≤ ((pulsed 2 1 true).belt.eyes.get .cap).count + 1 ∧
      ∀ d, d ≠ .cap →
        (pulsed 2 1 true).rawLevel d = ((pulsed 2 1 true).belt.eyes.get d).blocked) := by
  refine ⟨⟨rfl, rfl, pulsed_nothingDue 3 0 true⟩, fun e h => ?_, by decide, by decide, by decide,
    pulsed_agree 2 1 true⟩
  by_cases he : e = .cap
  · subst he
    decide
  · exact absurd (pulsed_agree 3 0 true e he) h

theorem witness_EyeInputFollowsPolarityAndFilter : line.pins.eyes.get .cap = false ∧
    (line.pins.eyes.get .cap ≠ true ∧ line.inReset = false ∧
      (pulsed 0 0 true).rawLevel .cap ≠ (line.belt.eyes.get .cap).blocked) ∧
    line.params.eyeFilter ≠ 0 ∧ ({ line.params with eyeFilter := 0 } : Params).eyeFilter = 0 ∧
    ((pulsed 0 1 true).pins.eyes.get .cap ≠ false ∧
      (pulsed 0 1 false).rawLevel .cap = ((pulsed 0 1 true).belt.eyes.get .cap).blocked) := by
  decide

/-- The line with a number of captures. -/
def capturing (n : Nat) : State :=
  { line with
    capture := { list := List.replicate n { tag := 5, lead := 200, trail := none }, nextTag := 6 } }

theorem witness_CaptureEyeEdgesMakeAndCloseCaptures : (capturing 7).capture.list.length < 8 ∧
    8 ≤ (capturing 8).capture.list.length ∧ (capturing 0).capture.list = [] ∧
    ((capturing 1).capture.list = [] ++ [{ tag := 5, lead := 200, trail := none }] ∧
      ({ tag := 5, lead := 200, trail := some 210 } : Capture).trail ≠ none) := by
  decide

theorem witness_InjectCaptureIsCheckedAndMade :
    (Accepts (request [0]) line ∧ (request [0]).body.length ≠ 2) ∧
    (Accepts (request [0, 0]) (locked 1) ∧ (request [0, 0]).body.length = 2 ∧
      1 ≤ (locked 1).params.lockLevel) ∧
    (line.params.lockLevel = 0 ∧ 4095 < (request [0x10, 0x00]).num 0 2) ∧
    ((request [0x0F, 0xFF]).num 0 2 ≤ 4095 ∧
      (line.belt.eyes.set .cap { blocked := true, count := 0 }).cap.blocked = true) ∧
    (Accepts (request [0x0F, 0xFF]) (capturing 8) ∧ (capturing 8).belt.eyes.cap.blocked = false ∧
      8 ≤ (capturing 8).capture.list.length) ∧
    (Accepts (request [0x0F, 0xFF]) (capturing 7) ∧ (capturing 7).capture.list.length < 8) := by
  decide

theorem witness_ScansPairWithTheHead :
    ((lineAt 1101).inReset = false ∧
      (lineAt 1101).capture.list = { tag := 5, lead := 200, trail := none } :: [] ∧
      (lineAt 1101).params.pairMax < ((lineAt 1101).belt.p - 200).toNat) ∧
    ¬ (lineAt 1100).params.pairMax < ((lineAt 1100).belt.p - 200).toNat ∧
    (capturing 0).capture.list = [] ∧
    ((lineAt 399).belt.p - 200).toNat < (lineAt 399).params.pairMin ∧
    (lineAt 400).params.pairMin ≤ ((lineAt 400).belt.p - 200).toNat := by
  decide

/-! ### Hypotheses met: the Placement Engine -/

/-- A subject whose fire position on lane 1 is 1800. -/
def placeable : Subject := { subject with entry := { subject.entry with lead := 300 } }

/-- The one candidate of the line for group 10. -/
def candidate : Candidate :=
  { order := order, lane := .l1, position := 3, line := 0, kind := .primary }

/-- The line with DEFAULT_ALLOW REFUSE. -/
def refusing : State := { line with params := { line.params with defaultAllow := .refuse } }

theorem witness_WinnerHasHighestScore : BookLaw line ∧ candidates line 10 = [candidate] ∧
    candidate.qualifies line placeable = true ∧
    winner line placeable (candidates line 10) = some candidate ∧
    winner line placeable (candidates line 99) = none :=
  ⟨line_bookLaw _ rfl, by decide +kernel, by decide +kernel, by decide +kernel, by decide +kernel⟩

/-- The item of a capture and a scan record. -/
def itemOf (trail : Option Pos) (sc : Option Scan) : Item :=
  { capture := { tag := 5, lead := 200, trail := trail }, scan := sc }

/-- The line with a number of entries in its belt queue. -/
def loaded (n : Nat) : State :=
  { line with divert := { line.divert with queue := List.replicate n { item with state := .outbound .missed } } }

theorem witness_DecisionStepsSettleInSequence :
    ((itemOf none none).scan = none ∧ ({ scan with status := 1 } : Scan).status ≠ 0) ∧
    48 ≤ (loaded 48).divert.queue.length ∧
    ((loaded 47).divert.queue.length < 48 ∧ (loaded 47).divert.armsLive = true ∧
      stopped.divert.armsLive = false) ∧
    ((loaded 47).params.noReadAction = .recirculate ∧
      ({ Params.reset with noReadAction := .reject } : Params).noReadAction = .reject) ∧
    (scan.status = 0 ∧ line.params.maxLen < ((361 : Pos) - 200).toNat ∧
      ¬ line.params.maxLen < ((360 : Pos) - 200).toNat) ∧
    (lookup 6 line.catalogue = none ∧ lookup scan.stock line.catalogue = some product) ∧
    (product.nominal * product.tolerance / 100 < ((111 : Int) - product.nominal).natAbs ∧
      ((110 : Int) - product.nominal).natAbs ≤ product.nominal * product.tolerance / 100) ∧
    ({ scan with weight := 0xFFFF } : Scan).weight = 0xFFFF := by
  decide

theorem witness_PlaceReservesElseRecirculates :
    winner line placeable (candidates line placeable.product.group) = some candidate ∧
    (winner line { placeable with product := { product with group := 99 } } (candidates line 99) =
        none ∧ candidates line 99 = []) ∧
    (winner refusing placeable (candidates refusing placeable.product.group) = none ∧
      BookLaw refusing ∧ candidates refusing placeable.product.group = [candidate] ∧
      refusalCause refusing placeable.scan.stock candidate.order.cls candidate.kind = some .default ∧
      candidate.passesRest refusing placeable = true) :=
  ⟨by decide +kernel, by decide +kernel, by decide +kernel, line_bookLaw _ rfl, by decide +kernel,
    by decide +kernel, by decide +kernel⟩

theorem witness_RejectsAndEntriesAreAppended :
    (line.rejectFits 100 = true ∧ (lineAt 13577).rejectFits 100 = false) ∧
    (item.state = .scheduled 1600 ∧ (1600 : Pos) ≠ line.belt.p) ∧
    (item.state = .scheduled (lineAt 1600).belt.p ∧ item.dest.arm = some (.lane .l1) ∧
      ∀ x ∈ (loaded 1).divert.queue, x.dest.arm = some (.lane .l1) → x.state ≠ .scheduled 1600) ∧
    ((lineAt 15099).belt.p - item.lead).toNat < (lineAt 15099).params.exitDist ∧
    (lineAt 15100).params.exitDist ≤ ((lineAt 15100).belt.p - item.lead).toNat := by
  decide

/-! ### Hypotheses met: the put wall, pause, line stop -/

/-- The line with another chute list on lane 1. -/
def chuted (l : List ChuteEntry) : State :=
  { line with wall := { line.wall with chutes := (PerLane.all []).set .l1 l } }

theorem witness_KeysTakeHeadsAndReleasePositions :
    (line.inReset = false ∧ line.wall.rx = .hunting ∧ (1 : Byte).toNat = laneNumber .l1) ∧
    (line.wall.chutes.get .l1 = chuteItem :: [] ∧ chuteItem.kind = .put 3 0 0 ∧
      (3 : Byte).toNat = 3) ∧
    (({ chuteItem with kind := .void } : ChuteEntry).kind = .void ∧
      ({ chuteItem with kind := .stray } : ChuteEntry).kind = .stray) ∧
    ((chuted []).headTarget .l1 ≠ some 3 ∧
      ((lineOf { line.book with orders := [{ order with state := .complete }] }).book.boundAt .l1 3).map
        (·.state) = some .complete) ∧
    (line.headTarget .l1 ≠ some (15 : Byte).toNat ∧ line.book.boundAt .l1 15 = none ∧
      line.headTarget .l1 ≠ some (0 : Byte).toNat) := by
  decide

/-- The line with marks and the transmitter's frame set. -/
def lit (marks : List Nat) (tx : Option LightFrame) : State :=
  { line with wall := { line.wall with marks := marks, pointer := 127, tx := tx } }

theorem witness_LightsAreDerivedMarkedAndSent :
    (line.headTarget .l1 = some 3 ∧ line.headTarget .l1 ≠ some 0 ∧
      line.book.boundAt .l8 15 = none ∧ light line .l1 3 = .put) ∧
    (line.wall.tx ≠ none ∧ lightAt (chuted []) 3 ≠ lightAt line 3) ∧
    ((lit [] none).wall.tx = none ∧ lightAt (lit [] none) 3 ≠ lightAt (chuted []) 3 ∧
      ((lit [] none).wall.pointer + 1 + 3) % 128 = 3 ∧
      ∀ j, j < 3 → lightAt (lit [] none) ((127 + 1 + j) % 128) =
        lightAt (chuted []) ((127 + 1 + j) % 128)) ∧
    (lit [] line.wall.tx).wall.tx ≠ none ∧
    ((lit [127] line.wall.tx).wall.pointer + 1 + 127) % 128 ∈ (lit [127] line.wall.tx).wall.marks ∧
    ∀ j, j < 127 →
      ((lit [127] line.wall.tx).wall.pointer + 1 + j) % 128 ∉ (lit [127] line.wall.tx).wall.marks := by
  refine ⟨by decide, by decide, by decide +kernel, by decide, by decide, fun j hj h => ?_⟩
  have h := List.mem_singleton.mp h
  change (127 + 1 + j) % 128 = 127 at h
  omega

/-- The line with the sources and the state of the pause set. -/
def pausedBy (req ctl : Bool) (st : PauseState) : State :=
  { line with
    pause := { line.pause.move st with requestAsserted := req, controlPause := ctl }
    pins := { line.pins with pauseReq := req } }

theorem witness_PauseFollowsItsSources :
    (Accepts (request []) (pausedBy true false .held) ∧
      (pausedBy true false .held).pause.requestAsserted = true) ∧
    (Accepts (request []) (pausedBy false false .running) ∧
      (pausedBy false false .running).pause.state = .running) ∧
    (Accepts (request []) (pausedBy false true .held) ∧
      (pausedBy false true .held).pause.state = .held) ∧
    (pausedBy false true .draining).pause.state = .draining ∧
    ((pausedBy true false .held).pins.pauseReq = true ∧
      (pausedBy false false .running).pins.pauseReq = false ∧
      (pausedBy false false .running).inReset = false) ∧
    (pausedBy true false .draining).pause.requestAsserted = true := by
  decide

/-- An empty draining line. -/
def drainedLine : State :=
  { paused .draining with
    capture := { list := [], nextTag := 6 }, divert := { line.divert with queue := [] } }

theorem witness_DrainGrantsAndLatchesArePerformed :
    (drainedLine.pause.state = .draining ∧ drainedLine.capture.list = [] ∧
      drainedLine.divert.queue = []) ∧
    (paused .draining).capture.list ≠ [] ∧ line.params.autoWave = 0 ∧
    (({ line.params with autoWave := 1 } : Params).autoWave ≠ 0 ∧ 1 ≤ line.wave.releases + 1 ∧
      line.wave.latch = .notHeld) := by
  decide

theorem witness_LineStopClearsArmsLive : line.pins.lineStop = false ∧
    ({ line.pins with lineStop := true } : Pins).lineStop = true ∧ line.inReset = false ∧
    line.divert.armsLive = true ∧ stopped.divert.armsLive = false ∧
    line.params.autoRearm = false ∧ ({ line.params with autoRearm := true } : Params).autoRearm = true ∧
    geometryConsistent { line.params with exitDist := 13621 } = true ∧
    geometryConsistent { line.params with exitDist := 13620 } = false := by
  decide

theorem witness_LineClearEmptiesLists :
    (Accepts (request []) (paused .running) ∧ (request []).body = [] ∧
      (paused .running).pause.stopAsserted = false ∧ (paused .running).pause.state ≠ .held) ∧
    (Accepts (request []) line ∧ BookLaw line ∧ AccountsLaw line ∧ line.pause.state = .held) ∧
    (Accepts (request []) stoppedLine ∧ stoppedLine.pause.stopAsserted = true ∧
      stoppedLine.wall.tx ≠ none) :=
  ⟨by decide, ⟨by decide, line_bookLaw _ rfl, line_accountsLaw _ rfl rfl rfl, rfl⟩, by decide⟩

/-! ### Hypotheses met: the laws -/

/-- The line with a pulse waiting. -/
def pulseWaits : State := { line with pending := [.encoderPulse] }

theorem pulseWaits_steps : ∃ t, step pulseWaits = .next t := ⟨_, rfl⟩

theorem witness_LinkStatusAndWallLawsAreKept : LinkLaw line ∧ StatusLaw line ∧ WallLaw line ∧
    ∃ t, step line = .next t :=
  ⟨line_linkLaw, line_statusLaw, line_wallLaw, _, rfl⟩

theorem witness_PauseAndArmsLawsAreKept : PauseLaw line ∧ ArmsLaw line ∧ ParamsLaw line ∧
    ScheduleLaw line ∧ ∃ t, step line = .next t :=
  ⟨line_pauseLaw, line_armsLaw, line_paramsLaw _ rfl rfl, line_scheduleLaw, _, rfl⟩

theorem witness_CatalogueLawIsKept : CatalogueLaw pulseWaits ∧ ∃ t, step pulseWaits = .next t :=
  ⟨line_catalogueLaw _ rfl, pulseWaits_steps⟩

theorem witness_ParameterAndEyeLawsAreKept : ParamsLaw line ∧ EyesLaw line ∧
    ∃ t, step line = .next t :=
  ⟨line_paramsLaw _ rfl rfl, line_eyesLaw, _, rfl⟩

theorem witness_BookLawIsKept : BookLaw pulseWaits ∧ ∃ t, step pulseWaits = .next t :=
  ⟨line_bookLaw _ rfl, pulseWaits_steps⟩

theorem witness_AccountsLawIsKept : BookLaw pulseWaits ∧ CatalogueLaw pulseWaits ∧
    AccountsLaw pulseWaits ∧ ∃ t, step pulseWaits = .next t :=
  ⟨line_bookLaw _ rfl, line_catalogueLaw _ rfl, line_accountsLaw _ rfl rfl rfl, pulseWaits_steps⟩

theorem witness_ListLawsAreKept : ParamsLaw line ∧ ChuteLaw line ∧ CaptureLaw line ∧ RecircLaw line ∧
    ∃ t, step line = .next t :=
  ⟨line_paramsLaw _ rfl rfl, line_chuteLaw, line_captureLaw, line_recircLaw, _, rfl⟩

end Sys2Proof.Tests
end

section
/-! PROOFS. Only the owners of LOAD_PRODUCT and DELETE_PRODUCT and a reset touch the product table: for
every other operation, in the order of the model, the table is as it was. -/

namespace Sys2Proof.Machine

/-! ### Operations taken along a list, and events that relight -/

/-- What one operation leaves of the product table, a run of it along a list leaves. -/
theorem foldl_catalogue {α : Type} {f : State → α → State}
    (h : ∀ t a, (f t a).catalogue = t.catalogue) (l : List α) (s : State) :
    (l.foldl f s).catalogue = s.catalogue := by
  induction l generalizing s with
  | nil => rfl
  | cons a l ih => rw [List.foldl_cons, ih, h]

@[simp] theorem withLights_catalogue (f : State → State) (s : State) :
    (withLights f s).catalogue = (f s).catalogue := by simp [withLights]

/-! ### The pause -/

@[simp] theorem pauseWanted_catalogue (s : State) : (pauseWanted s).catalogue = s.catalogue := by
  unfold pauseWanted; split <;> simp

@[simp] theorem pauseUnwanted_catalogue (detail : Nat) (s : State) :
    (pauseUnwanted detail s).catalogue = s.catalogue := by unfold pauseUnwanted; split <;> simp

@[simp] theorem afterSource_catalogue (before : Bool) (detail : Nat) (s : State) :
    (afterSource before detail s).catalogue = s.catalogue := by
  unfold afterSource; split <;> simp

@[simp] theorem captureMade_catalogue (s : State) : (captureMade s).catalogue = s.catalogue := by
  unfold captureMade; split <;> simp

/-! ### The Divert Scheduler -/

@[simp] theorem setArm_catalogue (a : Arm) (r : ArmRec) (s : State) :
    (setArm a r s).catalogue = s.catalogue := rfl

@[simp] theorem setChuteEye_catalogue (a : Arm) (r : ChuteEye) (s : State) :
    (setChuteEye a r s).catalogue = s.catalogue := rfl

@[simp] theorem changeEntry_catalogue (p : Entry → Bool) (f : Entry → Entry) (s : State) :
    (changeEntry p f s).catalogue = s.catalogue := rfl

@[simp] theorem removeEntry_catalogue (p : Entry → Bool) (s : State) :
    (removeEntry p s).catalogue = s.catalogue := rfl

@[simp] theorem setLane_catalogue (n : Lane) (st : LaneState) (s : State) :
    (setLane n st s).catalogue = s.catalogue := rfl

@[simp] theorem setArmsLive_catalogue (s : State) : (setArmsLive s).catalogue = s.catalogue := rfl

@[simp] theorem markDue_catalogue (s : State) : (markDue s).catalogue = s.catalogue := rfl

@[simp] theorem giveUp_catalogue (p : Entry → Bool) (reason : OutboundReason) (s : State) :
    (giveUp p reason s).catalogue = s.catalogue := by simp [giveUp, foldl_catalogue]

@[simp] theorem passOf_catalogue (carrier : Option Nat) (reason : OutboundReason) (s : State) :
    (passOf carrier reason s).catalogue = s.catalogue := by
  unfold passOf; (repeat' split) <;> simp

@[simp] theorem forgetCarrier_catalogue (carrier : Option Nat) (s : State) :
    (forgetCarrier carrier s).catalogue = s.catalogue := by
  unfold forgetCarrier; (repeat' split) <;> simp

@[simp] theorem fireArm_catalogue (a : Arm) (s : State) :
    (fireArm a s).catalogue = s.catalogue := by unfold fireArm; split <;> simp

@[simp] theorem endDwell_catalogue (a : Arm) (s : State) :
    (endDwell a s).catalogue = s.catalogue := by simp only [endDwell]; split <;> simp

@[simp] theorem lapseLastFire_catalogue (a : Arm) (s : State) :
    (lapseLastFire a s).catalogue = s.catalogue := by simp only [lapseLastFire]; split <;> simp

@[simp] theorem missEntry_catalogue (tag : Tag) (s : State) :
    (missEntry tag s).catalogue = s.catalogue := by unfold missEntry; split <;> simp

@[simp] theorem exited_catalogue (e : Entry) (s : State) :
    (exited e s).catalogue = s.catalogue := by simp only [exited]; split <;> simp

@[simp] theorem exitEntry_catalogue (tag : Tag) (s : State) :
    (exitEntry tag s).catalogue = s.catalogue := by unfold exitEntry; split <;> simp

@[simp] theorem jamLane_catalogue (n : Lane) (s : State) :
    (jamLane n s).catalogue = s.catalogue := by simp [jamLane]

@[simp] theorem jamReject_catalogue (s : State) : (jamReject s).catalogue = s.catalogue := by
  simp [jamReject]

@[simp] theorem jamArm_catalogue (a : Arm) (s : State) :
    (jamArm a s).catalogue = s.catalogue := by
  cases a with
  | lane n => simp only [jamArm]; split <;> simp
  | reject => simp only [jamArm]; split <;> simp

@[simp] theorem clearArmsLive_catalogue (s : State) :
    (clearArmsLive s).catalogue = s.catalogue := by simp [clearArmsLive]

/-! ### The Placement Engine -/

@[simp] theorem classRefusal_catalogue (c : Candidate) (cause : Cause) (sc : Scan) (s : State) :
    (classRefusal c cause sc s).catalogue = s.catalogue := by simp [classRefusal]

@[simp] theorem appendEntry_catalogue (e : Entry) (s : State) :
    (appendEntry e s).catalogue = s.catalogue := by
  simp only [appendEntry]; (repeat' split) <;> simp

@[simp] theorem recirculate_catalogue (e : Entry) (r : RecirculateReason) (s : State) :
    (recirculate e r s).catalogue = s.catalogue := by simp [recirculate]

@[simp] theorem rejectItem_catalogue (e : Entry) (r : RejectReason) (s : State) :
    (rejectItem e r s).catalogue = s.catalogue := by simp [rejectItem]

@[simp] theorem rejectReported_catalogue (e : Entry) (r : RejectReason) (kind : EventKind)
    (detail : Nat) (sc : Scan) (s : State) :
    (rejectReported e r kind detail sc s).catalogue = s.catalogue := by simp [rejectReported]

@[simp] theorem place_catalogue (c : Candidate) (x : Subject) (s : State) :
    (place c x s).catalogue = s.catalogue := by simp [place]

@[simp] theorem unplaceable_catalogue (x : Subject) (cs : List Candidate) (s : State) :
    (unplaceable x cs s).catalogue = s.catalogue := by
  simp only [unplaceable, recirculate_catalogue]; (repeat' split) <;> simp

@[simp] theorem placeOrRecirculate_catalogue (x : Subject) (s : State) :
    (placeOrRecirculate x s).catalogue = s.catalogue := by
  simp only [placeOrRecirculate]; split <;> simp

@[simp] theorem passLimitStep_catalogue (x : Subject) (s : State) :
    (passLimitStep x s).catalogue = s.catalogue := by unfold passLimitStep; split <;> simp

@[simp] theorem weightStep_catalogue (e : Entry) (r : Product) (sc : Scan) (s : State) :
    (weightStep e r sc s).catalogue = s.catalogue := by
  unfold weightStep; (repeat' split) <;> simp

@[simp] theorem catalogueStep_catalogue (e : Entry) (sc : Scan) (s : State) :
    (catalogueStep e sc s).catalogue = s.catalogue := by unfold catalogueStep; split <;> simp

@[simp] theorem doubleStep_catalogue (it : Item) (sc : Scan) (s : State) :
    (doubleStep it sc s).catalogue = s.catalogue := by unfold doubleStep; split <;> simp

@[simp] theorem noReadStep_catalogue (it : Item) (s : State) :
    (noReadStep it s).catalogue = s.catalogue := by unfold noReadStep; split <;> simp

@[simp] theorem reportNoRead_catalogue (it : Item) (s : State) :
    (reportNoRead it s).catalogue = s.catalogue := by unfold reportNoRead; split <;> simp

@[simp] theorem beltQueueFull_catalogue (it : Item) (s : State) :
    (beltQueueFull it s).catalogue = s.catalogue := by simp [beltQueueFull]

@[simp] theorem placementDecision_catalogue (it : Item) (s : State) :
    (placementDecision it s).catalogue = s.catalogue := by
  simp only [placementDecision]; (repeat' split) <;> simp

@[simp] theorem handItem_catalogue (it : Item) (s : State) :
    (handItem it s).catalogue = s.catalogue := by simp [handItem]

/-! ### The Capture Unit -/

@[simp] theorem makeCapture_catalogue (lead : Pos) (trail : Option Pos) (s : State) :
    (makeCapture lead trail s).catalogue = s.catalogue := by simp [makeCapture]

@[simp] theorem leadingEdge_catalogue (s : State) : (leadingEdge s).catalogue = s.catalogue := by
  unfold leadingEdge; split <;> simp

@[simp] theorem trailingEdge_catalogue (s : State) :
    (trailingEdge s).catalogue = s.catalogue := rfl

@[simp] theorem expireHead_catalogue (s : State) : (expireHead s).catalogue = s.catalogue := by
  unfold expireHead; (repeat' split) <;> simp

@[simp] theorem sweep_catalogue (n : Nat) (s : State) : (sweep n s).catalogue = s.catalogue := by
  induction n generalizing s with
  | zero => rfl
  | succ n ih => rw [sweep, ih, expireHead_catalogue]

@[simp] theorem sweepAll_catalogue (s : State) : (sweepAll s).catalogue = s.catalogue := by
  simp [sweepAll]

@[simp] theorem orphanScan_catalogue (detail : Nat) (sc : Scan) (s : State) :
    (orphanScan detail sc s).catalogue = s.catalogue := by simp [orphanScan]

@[simp] theorem pairScan_catalogue (sc : Scan) (s : State) :
    (pairScan sc s).catalogue = s.catalogue := by unfold pairScan; (repeat' split) <;> simp

@[simp] theorem scanArrival_catalogue (sc : Scan) (s : State) :
    (scanArrival sc s).catalogue = s.catalogue := by simp [scanArrival]

/-! ### The Put Wall Controller and the lane link -/

@[simp] theorem setChute_catalogue (n : Lane) (l : List ChuteEntry) (s : State) :
    (setChute n l s).catalogue = s.catalogue := rfl

@[simp] theorem positionRelease_catalogue (n : Lane) (position : Nat) (s : State) :
    (positionRelease n position s).catalogue = s.catalogue := by
  unfold positionRelease; split <;> simp

@[simp] theorem takeHead_catalogue (n : Lane) (e : ChuteEntry) (rest : List ChuteEntry)
    (s : State) : (takeHead n e rest s).catalogue = s.catalogue := by
  simp only [takeHead]; split <;> simp

@[simp] theorem wrongKey_catalogue (n : Lane) (position : Nat) (s : State) :
    (wrongKey n position s).catalogue = s.catalogue := by simp [wrongKey]

@[simp] theorem releaseOrWrong_catalogue (n : Lane) (position : Nat) (s : State) :
    (releaseOrWrong n position s).catalogue = s.catalogue := by
  unfold releaseOrWrong; split <;> simp

@[simp] theorem keyPress_catalogue (n : Lane) (position : Nat) (s : State) :
    (keyPress n position s).catalogue = s.catalogue := by unfold keyPress; (repeat' split) <;> simp

@[simp] theorem panelRefresh_catalogue (n : Lane) (s : State) :
    (panelRefresh n s).catalogue = s.catalogue := by simp [panelRefresh]

@[simp] theorem linkError_catalogue (detail : Nat) (s : State) :
    (linkError detail s).catalogue = s.catalogue := by simp [linkError]

@[simp] theorem laneFrame_linkErrorOn_catalogue (lane : Nat) (s : State) :
    (laneFrame.linkErrorOn lane s).catalogue = s.catalogue := by simp [laneFrame.linkErrorOn]

@[simp] theorem laneFrame_catalogue (lane kind position value : Byte) (s : State) :
    (laneFrame lane kind position value s).catalogue = s.catalogue := by
  unfold laneFrame; (repeat' split) <;> simp

@[simp] theorem judgeLaneFrame_catalogue (got : List Byte) (s : State) :
    (judgeLaneFrame got s).catalogue = s.catalogue := by unfold judgeLaneFrame; split <;> simp

@[simp] theorem laneByte_catalogue (s : State) (b : Byte) :
    (laneByte s b).catalogue = s.catalogue := by unfold laneByte; (repeat' split) <;> simp

@[simp] theorem laneBytes_catalogue (bytes : List Byte) (s : State) :
    (laneBytes bytes s).catalogue = s.catalogue := foldl_catalogue laneByte_catalogue bytes s

@[simp] theorem lightSent_catalogue (s : State) : (lightSent s).catalogue = s.catalogue := by
  unfold lightSent; split <;> simp

/-! ### The Belt Position Unit -/

@[simp] theorem chuteArrival_catalogue (n : Lane) (e : ChuteEntry) (s : State) :
    (chuteArrival n e s).catalogue = s.catalogue := rfl

@[simp] theorem strayArrival_catalogue (n : Lane) (s : State) :
    (strayArrival n s).catalogue = s.catalogue := rfl

@[simp] theorem confirmEntry_catalogue (a : Arm) (e : Entry) (s : State) :
    (confirmEntry a e s).catalogue = s.catalogue := by cases a <;> simp [confirmEntry]

@[simp] theorem strayAt_catalogue (a : Arm) (s : State) :
    (strayAt a s).catalogue = s.catalogue := by cases a <;> simp [strayAt]

@[simp] theorem chuteBlocked_catalogue (a : Arm) (s : State) :
    (chuteBlocked a s).catalogue = s.catalogue := by simp only [chuteBlocked]; split <;> simp

@[simp] theorem clearJam_catalogue (a : Arm) (s : State) :
    (clearJam a s).catalogue = s.catalogue := by
  cases a with
  | lane n => simp only [clearJam]; (repeat' split) <;> simp
  | reject => simp only [clearJam]; split <;> simp

@[simp] theorem chuteCleared_catalogue (a : Arm) (s : State) :
    (chuteCleared a s).catalogue = s.catalogue := by simp [chuteCleared]

@[simp] theorem takeEdge_catalogue (e : Eye) (blocking : Bool) (s : State) :
    (takeEdge e blocking s).catalogue = s.catalogue := by
  cases e with
  | cap => simp only [takeEdge]; split <;> simp
  | chute a => simp only [takeEdge]; split <;> simp

@[simp] theorem setFilter_catalogue (e : Eye) (f : EyeFilter) (s : State) :
    (setFilter e f s).catalogue = s.catalogue := rfl

@[simp] theorem makeEdge_catalogue (e : Eye) (s : State) :
    (makeEdge e s).catalogue = s.catalogue := by simp [makeEdge]

@[simp] theorem settleEye_catalogue (e : Eye) (s : State) :
    (settleEye e s).catalogue = s.catalogue := by
  simp only [settleEye]; (repeat' split) <;> simp

@[simp] theorem pulseEye_catalogue (s : State) (e : Eye) :
    (pulseEye s e).catalogue = s.catalogue := by simp only [pulseEye]; (repeat' split) <;> simp

@[simp] theorem eyeInput_catalogue (e : Eye) (high : Bool) (s : State) :
    (eyeInput e high s).catalogue = s.catalogue := by simp only [eyeInput]; split <;> simp

@[simp] theorem takeOutstanding_catalogue (s : State) :
    (takeOutstanding s).catalogue = s.catalogue := by simp [takeOutstanding, foldl_catalogue]

@[simp] theorem makeCount_catalogue (s : State) : (makeCount s).catalogue = s.catalogue := rfl

@[simp] theorem pulsePhase_catalogue (s : State) : (pulsePhase s).catalogue = s.catalogue := by
  unfold pulsePhase; split <;> simp

@[simp] theorem encoderPulse_catalogue (s : State) :
    (encoderPulse s).catalogue = s.catalogue := by simp [encoderPulse, foldl_catalogue]

/-! ### The inputs LINE_STOP and PAUSE_REQ, and the transmit queue -/

@[simp] theorem stopAsserted_catalogue (s : State) :
    (stopAsserted s).catalogue = s.catalogue := by
  simp only [stopAsserted, report_catalogue]; split <;> simp

@[simp] theorem stopReleased_catalogue (s : State) :
    (stopReleased s).catalogue = s.catalogue := by
  simp only [stopReleased]; (repeat' split) <;> simp

@[simp] theorem lineStopInput_catalogue (level : Bool) (s : State) :
    (lineStopInput level s).catalogue = s.catalogue := by
  simp only [lineStopInput]; (repeat' split) <;> simp

@[simp] theorem pauseReqInput_catalogue (level : Bool) (s : State) :
    (pauseReqInput level s).catalogue = s.catalogue := by
  simp only [pauseReqInput]; split <;> simp

@[simp] theorem frameSent_catalogue (s : State) : (frameSent s).catalogue = s.catalogue := by
  unfold frameSent; split <;> simp

@[simp] theorem endReset_catalogue (straps : BitVec 4) (s : State) :
    (endReset straps s).catalogue = s.catalogue := by simp [endReset]

end Sys2Proof.Machine
end

section
/-! PROOFS. What the owners of the requests do to the product table (Section 9.7): all but those of
LOAD_PRODUCT and DELETE_PRODUCT leave it as it was. -/

namespace Sys2Proof.Machine

/-! ### What an answer carries -/

@[simp] theorem Answer.refuse_state (s : State) (r : Result) : (Answer.refuse s r).state = s := rfl

@[simp] theorem Answer.ok_state (s : State) (body : List Byte) : (Answer.ok s body).state = s := rfl

@[simp] theorem Answer.done_state (s : State) (adjusted : Bool) (body : List Byte) :
    (Answer.done s adjusted body).state = s := rfl

/-- An owner whose act leaves the table leaves it too: a body that is not empty is refused. -/
theorem emptyBody_catalogue {own : State → Answer}
    (h : ∀ s, (own s).state.catalogue = s.catalogue) (body : List Byte) (s : State) :
    (emptyBody own body s).state.catalogue = s.catalogue := by
  unfold emptyBody
  split
  · exact h s
  · rfl

/-! ### The Status Unit, the refusal record and the link -/

@[simp] theorem ownReadIdent_catalogue (body : List Byte) (s : State) :
    (ownReadIdent body s).state.catalogue = s.catalogue := emptyBody_catalogue (fun _ => rfl) body s

@[simp] theorem ownReadStatus_catalogue (body : List Byte) (s : State) :
    (ownReadStatus body s).state.catalogue = s.catalogue :=
  emptyBody_catalogue (fun _ => rfl) body s

@[simp] theorem ownClearFlags_catalogue (body : List Byte) (s : State) :
    (ownClearFlags body s).state.catalogue = s.catalogue := by
  simp only [ownClearFlags]; split <;> simp

@[simp] theorem ownReadCounters_catalogue (body : List Byte) (s : State) :
    (ownReadCounters body s).state.catalogue = s.catalogue := by
  simp only [ownReadCounters]; (repeat' split) <;> simp

@[simp] theorem ownReadRefusal_catalogue (body : List Byte) (s : State) :
    (ownReadRefusal body s).state.catalogue = s.catalogue :=
  emptyBody_catalogue (fun _ => rfl) body s

@[simp] theorem ownClearRefusal_catalogue (body : List Byte) (s : State) :
    (ownClearRefusal body s).state.catalogue = s.catalogue :=
  emptyBody_catalogue (fun _ => rfl) body s

@[simp] theorem ownPartReset_catalogue (body : List Byte) (s : State) :
    (ownPartReset body s).state.catalogue = s.catalogue :=
  emptyBody_catalogue (fun _ => rfl) body s

/-! ### The Parameter Store -/

@[simp] theorem paramWritten_catalogue (q : Param) (s : State) :
    (paramWritten q s).catalogue = s.catalogue := by
  unfold paramWritten; split <;> simp [foldl_catalogue]

@[simp] theorem writeParam_catalogue (q : Param) (id index v : Nat) (s : State) :
    (writeParam q id index v s).state.catalogue = s.catalogue := by simp [writeParam]

@[simp] theorem checkedWrite_catalogue (q : Param) (id index v : Nat) (s : State) :
    (checkedWrite q id index v s).state.catalogue = s.catalogue := by
  unfold checkedWrite; (repeat' split) <;> simp

@[simp] theorem ownSetParam_catalogue (body : List Byte) (s : State) :
    (ownSetParam body s).state.catalogue = s.catalogue := by
  unfold ownSetParam; (repeat' split) <;> simp

@[simp] theorem ownReadParam_catalogue (body : List Byte) (s : State) :
    (ownReadParam body s).state.catalogue = s.catalogue := by
  unfold ownReadParam; (repeat' split) <;> simp

@[simp] theorem ownSetLock_catalogue (body : List Byte) (s : State) :
    (ownSetLock body s).state.catalogue = s.catalogue := by
  simp only [ownSetLock]; (repeat' split) <;> simp

/-! ### The Order Book -/

@[simp] theorem enterOrder_catalogue (now : Bool) (o : Order) (s : State) :
    (enterOrder now o s).catalogue = s.catalogue := by simp only [enterOrder]; split <;> simp

@[simp] theorem ownLoadOrder_catalogue (body : List Byte) (s : State) :
    (ownLoadOrder body s).state.catalogue = s.catalogue := by
  simp only [ownLoadOrder, loadInto]; (repeat' split) <;> simp

/-- A request that names an order leaves the table when the act on the order found does. -/
theorem withOrder_catalogue {own : Order → State → Answer}
    (h : ∀ o s, (own o s).state.catalogue = s.catalogue) (body : List Byte) (s : State) :
    (withOrder own body s).state.catalogue = s.catalogue := by
  unfold withOrder; (repeat' split) <;> simp [h]

@[simp] theorem releaseChute_catalogue (e : ChuteEntry) (s : State) :
    (releaseChute e s).catalogue = s.catalogue := by unfold releaseChute; split <;> simp

@[simp] theorem cancelInFlight_catalogue (o : Order) (s : State) :
    (cancelInFlight o s).catalogue = s.catalogue := by simp [cancelInFlight, foldl_catalogue]

theorem cancelFound_catalogue (o : Order) (s : State) :
    (cancelFound o s).state.catalogue = s.catalogue := by unfold cancelFound; split <;> simp

@[simp] theorem ownCancelOrder_catalogue (body : List Byte) (s : State) :
    (ownCancelOrder body s).state.catalogue = s.catalogue :=
  withOrder_catalogue cancelFound_catalogue body s

@[simp] theorem shortCloseOpen_catalogue (o : Order) (s : State) :
    (shortCloseOpen o s).catalogue = s.catalogue := by unfold shortCloseOpen; split <;> simp

theorem shortCloseFound_catalogue (o : Order) (s : State) :
    (shortCloseFound o s).state.catalogue = s.catalogue := by
  simp only [shortCloseFound]; split <;> simp

@[simp] theorem ownShortClose_catalogue (body : List Byte) (s : State) :
    (ownShortClose body s).state.catalogue = s.catalogue :=
  withOrder_catalogue shortCloseFound_catalogue body s

@[simp] theorem ownReadOrder_catalogue (body : List Byte) (s : State) :
    (ownReadOrder body s).state.catalogue = s.catalogue :=
  withOrder_catalogue (fun _ _ => rfl) body s

@[simp] theorem ownReadPosition_catalogue (body : List Byte) (s : State) :
    (ownReadPosition body s).state.catalogue = s.catalogue := by
  simp only [ownReadPosition]; (repeat' split) <;> simp

/-! ### The product table read, and the Wave Unit -/

@[simp] theorem readFound_catalogue (found : Option Product) (s : State) :
    (readFound found s).state.catalogue = s.catalogue := by unfold readFound; split <;> simp

@[simp] theorem ownReadProduct_catalogue (body : List Byte) (s : State) :
    (ownReadProduct body s).state.catalogue = s.catalogue := by
  unfold ownReadProduct; (repeat' split) <;> simp

@[simp] theorem ownStageRange_catalogue (body : List Byte) (s : State) :
    (ownStageRange body s).state.catalogue = s.catalogue := by
  simp only [ownStageRange]; (repeat' split) <;> simp

@[simp] theorem ownStageClass_catalogue (body : List Byte) (s : State) :
    (ownStageClass body s).state.catalogue = s.catalogue := by
  simp only [ownStageClass]; (repeat' split) <;> simp

@[simp] theorem ownReadRange_catalogue (body : List Byte) (s : State) :
    (ownReadRange body s).state.catalogue = s.catalogue := by
  simp only [ownReadRange]; (repeat' split) <;> simp

@[simp] theorem ownReadClass_catalogue (body : List Byte) (s : State) :
    (ownReadClass body s).state.catalogue = s.catalogue := by
  simp only [ownReadClass]; (repeat' split) <;> simp

theorem requestAdvance_catalogue (s : State) :
    (requestAdvance s).state.catalogue = s.catalogue := by
  simp only [requestAdvance]; (repeat' split) <;> simp

@[simp] theorem ownAdvanceWave_catalogue (body : List Byte) (s : State) :
    (ownAdvanceWave body s).state.catalogue = s.catalogue :=
  emptyBody_catalogue requestAdvance_catalogue body s

/-! ### Lanes and arms -/

theorem armLanes_catalogue (s : State) : (armLanes s).state.catalogue = s.catalogue := by
  unfold armLanes; (repeat' split) <;> simp

@[simp] theorem ownArmLanes_catalogue (body : List Byte) (s : State) :
    (ownArmLanes body s).state.catalogue = s.catalogue :=
  emptyBody_catalogue armLanes_catalogue body s

theorem disarmLanes_catalogue (s : State) : (disarmLanes s).state.catalogue = s.catalogue := by
  unfold disarmLanes; split <;> simp

@[simp] theorem ownDisarmLanes_catalogue (body : List Byte) (s : State) :
    (ownDisarmLanes body s).state.catalogue = s.catalogue :=
  emptyBody_catalogue disarmLanes_catalogue body s

/-- A request that names a lane leaves the table when the act on the lane does. -/
theorem withLane_catalogue {own : Lane → State → State}
    (h : ∀ n s, (own n s).catalogue = s.catalogue) (body : List Byte) (s : State) :
    (withLane own body s).state.catalogue = s.catalogue := by
  simp only [withLane]; (repeat' split) <;> simp [h]

theorem enableLane_catalogue (n : Lane) (s : State) :
    (enableLane n s).catalogue = s.catalogue := by unfold enableLane; split <;> simp

theorem disableLane_catalogue (n : Lane) (s : State) :
    (disableLane n s).catalogue = s.catalogue := by unfold disableLane; split <;> simp

@[simp] theorem ownLaneEnable_catalogue (body : List Byte) (s : State) :
    (ownLaneEnable body s).state.catalogue = s.catalogue :=
  withLane_catalogue enableLane_catalogue body s

@[simp] theorem ownLaneDisable_catalogue (body : List Byte) (s : State) :
    (ownLaneDisable body s).state.catalogue = s.catalogue :=
  withLane_catalogue disableLane_catalogue body s

/-! ### The Pause Controller and the belt -/

@[simp] theorem ownPause_catalogue (body : List Byte) (s : State) :
    (ownPause body s).state.catalogue = s.catalogue :=
  emptyBody_catalogue (fun _ => by simp [pauseRequest]) body s

@[simp] theorem ownResume_catalogue (body : List Byte) (s : State) :
    (ownResume body s).state.catalogue = s.catalogue :=
  emptyBody_catalogue (fun _ => by simp [resumeRequest]) body s

@[simp] theorem clearLists_catalogue (s : State) : (clearLists s).catalogue = s.catalogue := by
  simp [clearLists, foldl_catalogue]

theorem lineClear_catalogue (s : State) : (lineClear s).state.catalogue = s.catalogue := by
  simp only [lineClear]; split <;> simp

@[simp] theorem ownLineClear_catalogue (body : List Byte) (s : State) :
    (ownLineClear body s).state.catalogue = s.catalogue :=
  emptyBody_catalogue lineClear_catalogue body s

@[simp] theorem ownInjectCapture_catalogue (body : List Byte) (s : State) :
    (ownInjectCapture body s).state.catalogue = s.catalogue := by
  simp only [ownInjectCapture]; (repeat' split) <;> simp

/-! ### All owners -/

/-- The owner of a request code is that of LOAD_PRODUCT or DELETE_PRODUCT, or it leaves the product table
as it was. -/
theorem ownerOf_cases {code : Byte} {own : List Byte → State → Answer}
    (h : ownerOf code = some own) :
    own = ownLoadProduct ∨ own = ownDeleteProduct ∨
      ∀ body s, (own body s).state.catalogue = s.catalogue := by
  unfold ownerOf at h
  split at h <;> cases h <;> simp

/-- A request command is served by the owner of its code, as the request of a frame is (R165). -/
theorem exec_request {i : Instr} {code : Byte} {q : Request} (h : i.request? = some (code, q))
    (s : State) : ∃ own, ownerOf code = some own ∧ exec i s = serve code own q s := by
  cases i <;> cases h <;> exact ⟨_, rfl, rfl⟩

end Sys2Proof.Machine
end

section
/-! PROOFS. The product table's law (R26) under the two requests that change the table (R28 to R30):
records enter in their place, with fields in range and only while there is room, and leave without
disturbing the order. From there it follows the model up to the step. -/

namespace Sys2Proof.Machine

/-! ### The greatest value of a field -/

/-- Bytes taken after a number `n` give less than `n + 1` shifted by their count. -/
theorem be_foldl_lt (bytes : List Byte) (n : Nat) :
    bytes.foldl (fun n b => 256 * n + b.toNat) n < (n + 1) * 256 ^ bytes.length := by
  induction bytes generalizing n with
  | nil => simp
  | cons b bytes ih =>
    have hb : 256 * n + b.toNat + 1 ≤ (n + 1) * 256 := by have := b.isLt; omega
    calc bytes.foldl (fun n b => 256 * n + b.toNat) (256 * n + b.toNat)
        < (256 * n + b.toNat + 1) * 256 ^ bytes.length := ih _
      _ ≤ (n + 1) * 256 * 256 ^ bytes.length := Nat.mul_le_mul_right _ hb
      _ = (n + 1) * 256 ^ (b :: bytes).length := by
        rw [List.length_cons, Nat.pow_succ', Nat.mul_assoc]

/-- A field of `width` bytes is less than `256 ^ width`. -/
theorem fieldAt_lt (body : List Byte) (start width : Nat) :
    fieldAt body start width < 256 ^ width := by
  have hlen : ((body.drop start).take width).length ≤ width := List.length_take_le _ _
  calc fieldAt body start width
      < (0 + 1) * 256 ^ ((body.drop start).take width).length := be_foldl_lt _ 0
    _ ≤ 256 ^ width := by rw [Nat.zero_add, Nat.one_mul]; exact Nat.pow_le_pow_right (by omega) hlen

/-! ### Records -/

/-- Every field of a record lies in its range, R26. -/
def Product.InRange (r : Product) : Prop :=
  1 ≤ r.code ∧ r.code ≤ 16777214 ∧ r.group ≤ 1023 ∧ r.layer ≤ 3 ∧ 1 ≤ r.nominal ∧
    r.nominal ≤ 65534 ∧ r.tolerance ≤ 50

theorem toleranceUsed_le (v : Nat) : toleranceUsed v ≤ 50 := by unfold toleranceUsed; split <;> omega

/-- The checks of R28 step 2 with the widths of the fields (Section 9.8) put every field in its range. -/
theorem productOf_inRange {body : List Byte} (h : productBad (productOf body) = false) :
    (productOf body).InRange := by
  have hcode : (productOf body).code < 256 ^ 3 := fieldAt_lt body 0 3
  have hnominal : (productOf body).nominal < 256 ^ 2 := fieldAt_lt body 6 2
  have htolerance : (productOf body).tolerance ≤ 50 := toleranceUsed_le _
  simp only [productBad, badCode, Bool.or_eq_false_iff, decide_eq_false_iff_not, beq_eq_false_iff_ne]
    at h
  obtain ⟨⟨⟨⟨⟨hzero, hones⟩, hgroup⟩, hlayer⟩, hnominal0⟩, hnominal1⟩ := h
  unfold Product.InRange
  omega

/-! ### A record enters the table, R29 -/

theorem mem_insertProduct {r x : Product} {t : List Product} (h : x ∈ insertProduct r t) :
    x = r ∨ x ∈ t := by
  induction t with
  | nil => exact Or.inl (List.mem_singleton.mp h)
  | cons y t ih =>
    rw [insertProduct] at h
    split at h
    · exact List.mem_cons.mp h
    · split at h
      · exact (List.mem_cons.mp h).imp_right (List.mem_cons_of_mem y)
      · rcases List.mem_cons.mp h with rfl | h
        · exact Or.inr List.mem_cons_self
        · exact (ih h).imp_right (List.mem_cons_of_mem y)

theorem insertProduct_pairwise (r : Product) {t : List Product}
    (h : t.Pairwise fun a b => a.code < b.code) :
    (insertProduct r t).Pairwise fun a b => a.code < b.code := by
  induction t with
  | nil => exact List.pairwise_singleton _ _
  | cons y t ih =>
    obtain ⟨hy, ht⟩ := List.pairwise_cons.mp h
    rw [insertProduct]
    split
    · rename_i hlt
      refine List.pairwise_cons.mpr ⟨fun x hx => ?_, h⟩
      rcases List.mem_cons.mp hx with rfl | hx
      · exact hlt
      · exact Nat.lt_trans hlt (hy x hx)
    · split
      · rename_i heq
        exact List.pairwise_cons.mpr ⟨fun x hx => heq ▸ hy x hx, ht⟩
      · refine List.pairwise_cons.mpr ⟨fun x hx => ?_, ih ht⟩
        rcases mem_insertProduct hx with rfl | hx
        · omega
        · exact hy x hx

theorem insertProduct_length_le (r : Product) (t : List Product) :
    (insertProduct r t).length ≤ t.length + 1 := by
  induction t with
  | nil => exact Nat.le_refl _
  | cons y t ih => rw [insertProduct]; (repeat' split) <;> simp [ih]

/-- A record whose stock code an ascending table holds replaces the one held. -/
theorem insertProduct_length_of_held {r : Product} {t : List Product}
    (h : t.Pairwise fun a b => a.code < b.code) (hheld : ∃ x ∈ t, x.code = r.code) :
    (insertProduct r t).length = t.length := by
  induction t with
  | nil => simp at hheld
  | cons y t ih =>
    obtain ⟨hy, ht⟩ := List.pairwise_cons.mp h
    obtain ⟨x, hx, hcode⟩ := hheld
    rw [insertProduct]
    rcases List.mem_cons.mp hx with rfl | hx
    · simp [hcode]
    · have hlt := hy x hx
      rw [if_neg (by omega), if_neg (by omega), List.length_cons, ih ht ⟨x, hx, hcode⟩,
        List.length_cons]

/-- The stock codes a lookup finds are those the table holds, R32. -/
theorem lookup_isSome_iff (code : Nat) (t : List Product) :
    (lookup code t).isSome = true ↔ ∃ x ∈ t, x.code = code := by
  simp [lookup, List.find?_isSome]

/-! ### The law -/

/-- The law speaks of the product table alone. -/
theorem CatalogueLaw.of_catalogue_eq {s t : State} (h : CatalogueLaw s)
    (heq : t.catalogue = s.catalogue) : CatalogueLaw t := by
  constructor
  · rw [heq]; exact h.size
  · rw [heq]; exact h.sorted
  · rw [heq]; exact h.fields

theorem CatalogueLaw.of_catalogue_nil {s : State} (h : s.catalogue = []) : CatalogueLaw s := by
  constructor <;> simp [h]

/-- A record in range enters when the table holds its stock code or has room. -/
theorem CatalogueLaw.insert {s : State} (h : CatalogueLaw s) {r : Product} (hr : r.InRange)
    (hroom : (lookup r.code s.catalogue).isSome = true ∨ s.catalogue.length < 4096) :
    CatalogueLaw (s.onCatalogue fun _ => insertProduct r s.catalogue) where
  size := by
    show (insertProduct r s.catalogue).length ≤ 4096
    rcases hroom with hheld | hfree
    · rw [insertProduct_length_of_held h.sorted ((lookup_isSome_iff _ _).mp hheld)]
      exact h.size
    · have := insertProduct_length_le r s.catalogue
      omega
  sorted := insertProduct_pairwise r h.sorted
  fields x hx := by
    rcases mem_insertProduct hx with rfl | hx
    · exact hr
    · exact h.fields x hx

/-- Records leave and those kept stay in their order. -/
theorem CatalogueLaw.filter {s : State} (h : CatalogueLaw s) (p : Product → Bool) :
    CatalogueLaw (s.onCatalogue fun _ => s.catalogue.filter p) where
  size := Nat.le_trans (List.length_filter_le _ _) h.size
  sorted := h.sorted.filter p
  fields x hx := h.fields x (List.mem_filter.mp hx).1

/-! ### LOAD_PRODUCT and DELETE_PRODUCT -/

theorem ownLoadProduct_catalogueLaw (body : List Byte) {s : State} (h : CatalogueLaw s) :
    CatalogueLaw (ownLoadProduct body s).state := by
  simp only [ownLoadProduct]
  split
  · exact h
  split
  · exact h
  split
  · exact h
  rename_i hgood hroom
  refine h.insert (productOf_inRange (Bool.eq_false_iff.mpr hgood)) ?_
  rcases Bool.eq_false_or_eq_true (lookup (productOf body).code s.catalogue).isSome with hs | hs
  · exact Or.inl hs
  · exact Or.inr (Nat.lt_of_not_le fun hle => hroom ⟨hs, hle⟩)

theorem ownDeleteProduct_catalogueLaw (body : List Byte) {s : State} (h : CatalogueLaw s) :
    CatalogueLaw (ownDeleteProduct body s).state := by
  simp only [ownDeleteProduct]
  split
  · exact h
  split
  · exact h
  split
  · exact h
  exact h.filter _

/-- Every owner keeps the law. -/
theorem ownerOf_catalogueLaw {code : Byte} {own : List Byte → State → Answer}
    (howner : ownerOf code = some own) (body : List Byte) {s : State} (h : CatalogueLaw s) :
    CatalogueLaw (own body s).state := by
  rcases ownerOf_cases howner with rfl | rfl | heq
  · exact ownLoadProduct_catalogueLaw body h
  · exact ownDeleteProduct_catalogueLaw body h
  · exact h.of_catalogue_eq (heq body s)

/-! ### Requests, as commands and as bytes -/

/-- A request keeps the law when its owner does. -/
theorem takeRequest_catalogueLaw {code : Byte} {own : List Byte → State → Answer} {q : Request}
    {s : State} (hown : CatalogueLaw (own q.body s).state) (h : CatalogueLaw s) :
    CatalogueLaw (takeRequest code own q s) := by
  unfold takeRequest
  split
  · exact h.of_catalogue_eq (by simp [dropRequest])
  · split
    · exact h.of_catalogue_eq rfl
    · exact hown.of_catalogue_eq rfl

/-- What a hearing receiver keeps, a deaf one keeps. -/
theorem unlessDeaf_catalogueLaw {f : State → State} {s : State} (hf : CatalogueLaw (f s))
    (h : CatalogueLaw s) : CatalogueLaw (unlessDeaf f s) := by
  unfold unlessDeaf
  split
  · exact h
  · exact hf

theorem requestFrame_catalogueLaw (source tag : Byte) (payload : List Byte) {s : State}
    (h : CatalogueLaw s) : CatalogueLaw (requestFrame source tag payload s) := by
  unfold requestFrame
  split
  · exact takeRequest_catalogueLaw h h
  · rename_i code body
    refine takeRequest_catalogueLaw ?_ h
    rcases howner : ownerOf code with _ | own
    · exact h
    · exact ownerOf_catalogueLaw howner body h

@[simp] theorem scanFrame_catalogue (source : Byte) (payload : List Byte) (s : State) :
    (scanFrame source payload s).catalogue = s.catalogue := by
  unfold scanFrame; (repeat' split) <;> simp

theorem sortFrame_catalogueLaw (kind source tag : Byte) (payload : List Byte) {s : State}
    (h : CatalogueLaw s) : CatalogueLaw (sortFrame kind source tag payload s) := by
  unfold sortFrame
  split
  · exact h.of_catalogue_eq (by simp)
  split
  · exact requestFrame_catalogueLaw source tag payload h
  split
  · exact h.of_catalogue_eq (by simp)
  · exact h.of_catalogue_eq (by simp)

theorem judgeFrame_catalogueLaw (covered check : List Byte) {s : State} (h : CatalogueLaw s) :
    CatalogueLaw (judgeFrame covered check s) := by
  unfold judgeFrame
  split
  · exact h.of_catalogue_eq (by simp)
  split
  · exact h
  · exact sortFrame_catalogueLaw _ _ _ _ h

@[simp] theorem setRx_catalogue (rx : IntakeRx) (s : State) :
    (setRx rx s).catalogue = s.catalogue := rfl

@[simp] theorem headerComplete_catalogue (covered : List Byte) (s : State) :
    (headerComplete covered s).catalogue = s.catalogue := by
  simp only [headerComplete]; (repeat' split) <;> simp

/-- A byte leaves the product table as it was, or it completes a frame that is judged, R159. -/
theorem takeByte_cases (b : Byte) (s : State) :
    (takeByte b s).catalogue = s.catalogue ∨
      ∃ covered check, takeByte b s = judgeFrame covered check (setRx .hunting s) := by
  unfold takeByte
  split
  case h_5 covered hi _ => exact Or.inr ⟨covered, [hi, b], rfl⟩
  all_goals exact Or.inl (by (repeat' split) <;> simp)

theorem takeByte_catalogueLaw (b : Byte) {s : State} (h : CatalogueLaw s) :
    CatalogueLaw (takeByte b s) := by
  rcases takeByte_cases b s with heq | ⟨covered, check, heq⟩
  · exact h.of_catalogue_eq heq
  · rw [heq]
    exact judgeFrame_catalogueLaw covered check (h.of_catalogue_eq rfl)

theorem intakeBytes_catalogueLaw (bytes : List Byte) {s : State} (h : CatalogueLaw s) :
    CatalogueLaw (intakeBytes bytes s) := by
  unfold intakeBytes
  induction bytes generalizing s with
  | nil => exact h
  | cons b bytes ih => exact ih (unlessDeaf_catalogueLaw (takeByte_catalogueLaw b h) h)

/-! ### Commands and steps -/

@[simp] theorem unlessInReset_catalogue {f : State → State}
    (hf : ∀ t, (f t).catalogue = t.catalogue) (s : State) :
    (unlessInReset f s).catalogue = s.catalogue := by
  unfold unlessInReset; split <;> simp [hf]

theorem takeReset_catalogueLaw (k : ResetKind) (s : State) : CatalogueLaw (takeReset k s) :=
  .of_catalogue_nil rfl

/-- A request command keeps the law. -/
theorem exec_request_catalogueLaw {i : Instr} {code : Byte} {q : Request}
    (hi : i.request? = some (code, q)) {s t : State} (h : CatalogueLaw s)
    (hexec : exec i s = .next t) : CatalogueLaw t := by
  obtain ⟨own, howner, heq⟩ := exec_request hi s
  cases heq.symm.trans hexec
  exact unlessDeaf_catalogueLaw (takeRequest_catalogueLaw (ownerOf_catalogueLaw howner q.body h) h) h

/-- An event keeps the law: a reset empties the table, intake bytes may bring a request, and no other
event changes it. -/
theorem exec_event_catalogueLaw {i : Instr} (hi : i.request? = none) {s t : State}
    (h : CatalogueLaw s) (hexec : exec i s = .next t) : CatalogueLaw t := by
  cases i
  case partResetTaken =>
    cases hexec
    split
    · exact takeReset_catalogueLaw _ s
    · exact h
  case powerOn => cases hexec; exact takeReset_catalogueLaw _ s
  case resetPin => cases hexec; exact takeReset_catalogueLaw _ s
  case intakeFrameReceived bytes => cases hexec; exact intakeBytes_catalogueLaw bytes h
  case resetEnd straps =>
    cases hexec
    exact h.of_catalogue_eq (by split <;> simp)
  all_goals cases hi
  all_goals
    cases hexec
    exact h.of_catalogue_eq (by simp)

theorem exec_catalogueLaw (i : Instr) {s t : State} (h : CatalogueLaw s)
    (hexec : exec i s = .next t) : CatalogueLaw t := by
  rcases hi : i.request? with _ | ⟨code, q⟩
  · exact exec_event_catalogueLaw hi h hexec
  · exact exec_request_catalogueLaw hi h hexec

/-- Settles O56: the step runs a command on a state with the same table, and every command keeps the law. -/
theorem catalogueLawIsKept : Obligations.CatalogueLawIsKept := by
  intro s t h hstep
  unfold step at hstep
  split at hstep
  · cases hstep
    exact h
  · rename_i c rest _
    have hrest : CatalogueLaw { s with pending := rest } := h.of_catalogue_eq rfl
    exact exec_catalogueLaw c hrest hstep

end Sys2Proof.Machine
end

section
/-! PROOFS. The permission test (R35, R36): the ranges that speak for a stock code and class, the lowest of
them that lacks the class, and the answer they give. -/

namespace Sys2Proof.Machine

/-! ### The lowest index that a test selects -/

/-- A search of a list with its indexes finds the entry of the lowest index that passes. -/
theorem find?_zipIdx_eq_some {α : Type} {p : α × Nat → Bool} {l : List α} {x : α} {i : Nat} :
    l.zipIdx.find? p = some (x, i) ↔ l[i]? = some x ∧ p (x, i) = true ∧
      ∀ j, j < i → ∀ y, l[j]? = some y → p (y, j) = false := by
  rw [List.find?_eq_some_iff_getElem]
  constructor
  · rintro ⟨hp, k, hk, hget, hbefore⟩
    rw [List.length_zipIdx] at hk
    rw [List.getElem_zipIdx, Nat.zero_add] at hget
    obtain ⟨rfl, rfl⟩ := Prod.mk.inj hget
    refine ⟨List.getElem?_eq_getElem hk, hp, fun j hj y hy => ?_⟩
    obtain ⟨hjl, rfl⟩ := List.getElem?_eq_some_iff.mp hy
    simpa using hbefore j hj
  · rintro ⟨hget, hp, hbefore⟩
    obtain ⟨hi, rfl⟩ := List.getElem?_eq_some_iff.mp hget
    refine ⟨hp, i, by simpa using hi, by simp, fun j hj => ?_⟩
    have hjl : j < l.length := Nat.lt_trans hj hi
    simpa using hbefore j hj _ (List.getElem?_eq_getElem hjl)

theorem find?_zipIdx_eq_none {α : Type} {p : α × Nat → Bool} {l : List α} :
    l.zipIdx.find? p = none ↔ ∀ i x, l[i]? = some x → p (x, i) = false := by
  simp only [List.find?_eq_none, Prod.forall, List.mk_mem_zipIdx_iff_getElem?, Bool.not_eq_true]
  exact forall_comm

/-! ### Ranges -/

/-- The range of an index is relevant to a stock code and class, R35 step 1. -/
def relevantAt (l : List RangeEntry) (code cls i : Nat) : Prop :=
  ∃ r, l[i]? = some r ∧ r.relevant code cls = true

/-- The range of an index lacks a class in its mask for a kind, R35. -/
def lacksAt (l : List RangeEntry) (cls : Nat) (k : Kind) (i : Nat) : Prop :=
  ∃ r, l[i]? = some r ∧ (r.mask k).getLsbD cls = false

theorem RangeEntry.relevant_iff (r : RangeEntry) (code cls : Nat) :
    r.relevant code cls = true ↔
      r.valid = true ∧ r.start ≤ code ∧ code ≤ r.stop ∧ r.check.getLsbD cls = true := by
  simp [RangeEntry.relevant, and_assoc]

theorem relevantRanges_eq_nil_iff {l : List RangeEntry} {code cls : Nat} :
    relevantRanges l code cls = [] ↔ ¬ ∃ i, relevantAt l code cls i := by
  rw [relevantRanges, List.filter_eq_nil_iff]
  constructor
  · rintro h ⟨i, r, hget, hr⟩
    exact h (r, i) (List.mk_mem_zipIdx_iff_getElem?.mpr hget) hr
  · rintro h ⟨r, i⟩ hmem hr
    exact h ⟨i, r, List.mk_mem_zipIdx_iff_getElem?.mp hmem, hr⟩

/-- A relevant range that refuses: one that speaks for the item and lacks the class. -/
def RangeEntry.refuses (code cls : Nat) (k : Kind) (r : RangeEntry) : Bool :=
  r.relevant code cls && !(r.mask k).getLsbD cls

theorem refuses_iff {l : List RangeEntry} {code cls : Nat} {k : Kind} {i : Nat} {r : RangeEntry}
    (hget : l[i]? = some r) :
    r.refuses code cls k = true ↔ relevantAt l code cls i ∧ lacksAt l cls k i := by
  simp [RangeEntry.refuses, relevantAt, lacksAt, hget]

theorem refuses_eq_false_iff {l : List RangeEntry} {code cls : Nat} {k : Kind} {i : Nat}
    {r : RangeEntry} (hget : l[i]? = some r) :
    r.refuses code cls k = false ↔ (relevantAt l code cls i → ¬ lacksAt l cls k i) := by
  rw [← Bool.not_eq_true, refuses_iff hget, not_and]

/-! ### The answer -/

/-- R36: with no relevant range the answer is DEFAULT_ALLOW. -/
theorem refusalCause_of_no_relevant {s : State} {code cls : Nat} {k : Kind}
    (h : ¬ ∃ i, relevantAt s.ranges.ranges code cls i) :
    refusalCause s code cls k =
      match s.params.defaultAllow with | .allow => none | .refuse => some .default := by
  unfold refusalCause
  split
  · rfl
  · rename_i hne
    exact absurd (relevantRanges_eq_nil_iff.mpr h) hne

/-- R35 step 2: with a relevant range the cause is the first of the table's ranges that refuses. -/
theorem refusalCause_of_relevant {s : State} {code cls : Nat} {k : Kind}
    (h : ∃ i, relevantAt s.ranges.ranges code cls i) :
    refusalCause s code cls k =
      (s.ranges.ranges.zipIdx.find? fun x => x.1.refuses code cls k).map fun x => .range x.2 := by
  have hne : relevantRanges s.ranges.ranges code cls ≠ [] :=
    fun hnil => relevantRanges_eq_nil_iff.mp hnil h
  unfold refusalCause
  split
  · contradiction
  · simp only [relevantRanges, List.find?_filter, RangeEntry.refuses, Bool.decide_and,
      Bool.decide_eq_true]

/-- R35: allowed exactly when no relevant range lacks the class. -/
theorem refusalCause_eq_none_iff {s : State} {code cls : Nat} {k : Kind}
    (h : ∃ i, relevantAt s.ranges.ranges code cls i) :
    refusalCause s code cls k = none ↔
      ∀ i, relevantAt s.ranges.ranges code cls i → ¬ lacksAt s.ranges.ranges cls k i := by
  rw [refusalCause_of_relevant h, Option.map_eq_none_iff, find?_zipIdx_eq_none]
  constructor
  · rintro hall i ⟨r, hget, hr⟩
    exact (refuses_eq_false_iff hget).mp (hall i r hget) ⟨r, hget, hr⟩
  · exact fun hall i r hget => (refuses_eq_false_iff hget).mpr (hall i)

/-- R35, R36: the cause of a refusal is the lowest relevant range that lacks the class. -/
theorem refusalCause_eq_some_iff {s : State} {code cls : Nat} {k : Kind}
    (h : ∃ i, relevantAt s.ranges.ranges code cls i) (c : Cause) :
    refusalCause s code cls k = some c ↔
      ∃ i, c = .range i ∧ relevantAt s.ranges.ranges code cls i ∧
        lacksAt s.ranges.ranges cls k i ∧
        ∀ j, j < i → relevantAt s.ranges.ranges code cls j → ¬ lacksAt s.ranges.ranges cls k j := by
  rw [refusalCause_of_relevant h, Option.map_eq_some_iff]
  constructor
  · rintro ⟨⟨r, i⟩, hfind, rfl⟩
    obtain ⟨hget, hr, hbefore⟩ := find?_zipIdx_eq_some.mp hfind
    obtain ⟨hrel, hlack⟩ := (refuses_iff hget).mp hr
    refine ⟨i, rfl, hrel, hlack, fun j hj => ?_⟩
    rintro ⟨x, hx, hxr⟩
    exact (refuses_eq_false_iff hx).mp (hbefore j hj x hx) ⟨x, hx, hxr⟩
  · rintro ⟨i, rfl, ⟨r, hget, hr⟩, hlack, hbefore⟩
    refine ⟨(r, i), find?_zipIdx_eq_some.mpr ⟨hget, ?_, fun j hj x hx => ?_⟩, rfl⟩
    · exact (refuses_iff hget).mpr ⟨⟨r, hget, hr⟩, hlack⟩
    · exact (refuses_eq_false_iff hx).mpr (hbefore j hj)

/-- Settles O20: the statement's relevant and lacking ranges are `relevantAt` and `lacksAt`, for which the
answer is given by case: no relevant range, none that lacks the class, the lowest that lacks it. -/
theorem permissionNeedsEveryRelevantRange : Obligations.PermissionNeedsEveryRelevantRange := by
  intro s code cls k relevant lacks
  have hrelevant : relevant = relevantAt s.ranges.ranges code cls := by
    funext i
    simp only [relevant, relevantAt, RangeEntry.relevant_iff]
  have hlacks : lacks = lacksAt s.ranges.ranges cls k := by
    cases k <;> rfl
  rw [hrelevant, hlacks]
  exact ⟨refusalCause_of_no_relevant, fun h =>
    ⟨refusalCause_eq_none_iff h, refusalCause_eq_some_iff h⟩⟩

end Sys2Proof.Machine
end

section
/-! PROOFS. INJECT_CAPTURE (R54): the capture the Capture Unit makes, and the answer of each of the five checks
in its sequence. -/

namespace Sys2Proof.Machine

/-! ### The capture made -/

/-- R154: a capture made while HELD brings DRAINING back, with the outputs of R150. -/
theorem captureMade_eq (s : State) : captureMade s =
    { s with
      pause :=
        if s.pause.state = .held then
          { s.pause with state := .draining, inductHold := true, pauseAck := false }
        else s.pause } := by
  unfold captureMade
  split <;> rfl

/-- R50, R51, R54: what a capture made changes is the list with its tag counter, CAPTURES and the pause. -/
theorem makeCapture_eq (lead : Pos) (trail : Option Pos) (s : State) : makeCapture lead trail s =
    { s with
      capture :=
        { list := s.capture.list ++ [{ tag := s.capture.nextTag, lead := lead, trail := trail }]
          nextTag := s.capture.nextTag + 1 }
      status := { s.status with counters := s.status.counters.modify 0 bump }
      pause :=
        if s.pause.state = .held then
          { s.pause with state := .draining, inductHold := true, pauseAck := false }
        else s.pause } :=
  captureMade_eq _

/-- A capture made makes the list one longer. -/
theorem makeCapture_list_length (lead : Pos) (trail : Option Pos) (s : State) :
    (makeCapture lead trail s).capture.list.length = s.capture.list.length + 1 := by
  rw [makeCapture_eq, List.length_append, List.length_singleton]

/-! ### The checks of R54 in their sequence -/

section
variable {body : List Byte} {s : State}

theorem ownInjectCapture_of_length_ne (hlength : body.length ≠ 2) :
    ownInjectCapture body s = .refuse s .badLength := if_pos hlength

theorem ownInjectCapture_of_locked (hlength : body.length = 2) (hlock : 1 ≤ s.params.lockLevel) :
    ownInjectCapture body s = .refuse s .locked := by
  rw [ownInjectCapture, if_neg (not_not_intro hlength), if_pos hlock]

theorem ownInjectCapture_of_tooLong (hlength : body.length = 2) (hlock : s.params.lockLevel = 0)
    (hlong : 4095 < fieldAt body 0 2) : ownInjectCapture body s = .refuse s .badField := by
  simp [ownInjectCapture, hlength, hlock, hlong]

theorem ownInjectCapture_of_blocked (hlength : body.length = 2) (hlock : s.params.lockLevel = 0)
    (hfits : fieldAt body 0 2 ≤ 4095) (hblocked : s.belt.eyes.cap.blocked = true) :
    ownInjectCapture body s = .refuse s .busy := by
  simp [ownInjectCapture, hlength, hlock, Nat.not_lt_of_le hfits, hblocked]

theorem ownInjectCapture_of_full (hlength : body.length = 2) (hlock : s.params.lockLevel = 0)
    (hfits : fieldAt body 0 2 ≤ 4095) (hclear : s.belt.eyes.cap.blocked = false)
    (hfull : Config.captureList ≤ s.capture.list.length) :
    ownInjectCapture body s = .refuse s .noSpace := by
  simp [ownInjectCapture, hlength, hlock, Nat.not_lt_of_le hfits, hclear, hfull]

/-- Past the five checks the capture stands from P to P + L, and the body counts it. -/
theorem ownInjectCapture_of_room (hlength : body.length = 2) (hlock : s.params.lockLevel = 0)
    (hfits : fieldAt body 0 2 ≤ 4095) (hclear : s.belt.eyes.cap.blocked = false)
    (hroom : s.capture.list.length < Config.captureList) :
    ownInjectCapture body s =
      .ok (makeCapture s.p (some (beyond s.p (fieldAt body 0 2))) s)
        (toBytes 2 s.capture.nextTag.toNat ++ toBytes 2 s.p.toNat ++
          toBytes 1 (s.capture.list.length + 1)) := by
  simp [ownInjectCapture, hlength, hlock, Nat.not_lt_of_le hfits, hclear, Nat.not_le_of_lt hroom,
    makeCapture_list_length]

end

/-- An INJECT_CAPTURE that passes the common checks is answered as its owner answers it. -/
theorem exec_injectCapture_of_accepts {q : Request} {s : State} (h : Accepts q s) {a : Answer}
    (ha : ownInjectCapture q.body s = a) :
    exec (.injectCapture q) s = .next (withResponse 0x70 q a.result a.body a.state) := by
  subst ha
  exact serve_of_accepts h 0x70 ownInjectCapture

/-- Settles O40: each check of R54 answers when those before it pass, and past all five the capture of
`makeCapture_eq` is made. -/
theorem injectCaptureIsCheckedAndMade : Obligations.InjectCaptureIsCheckedAndMade := by
  intro q s h
  refine ⟨fun hlength => ?badLength, fun hlength hlock => ?locked,
    fun hlength hlock hlong => ?badField, fun hlength hlock hfits hblocked => ?busy,
    fun hlength hlock hfits hclear hfull => ?noSpace,
    fun hlength hlock hfits hclear hroom => ?made⟩
  case badLength =>
    exact exec_injectCapture_of_accepts h (ownInjectCapture_of_length_ne hlength)
  case locked =>
    exact exec_injectCapture_of_accepts h (ownInjectCapture_of_locked hlength hlock)
  case badField =>
    exact exec_injectCapture_of_accepts h (ownInjectCapture_of_tooLong hlength hlock hlong)
  case busy =>
    exact exec_injectCapture_of_accepts h (ownInjectCapture_of_blocked hlength hlock hfits hblocked)
  case noSpace =>
    exact exec_injectCapture_of_accepts h (ownInjectCapture_of_full hlength hlock hfits hclear hfull)
  case made =>
    have hown := ownInjectCapture_of_room hlength hlock hfits hclear hroom
    rw [makeCapture_eq] at hown
    exact exec_injectCapture_of_accepts h hown

end Sys2Proof.Machine
end

section
/-! PROOFS. The winner of a placement decision (R81): the best element of a list under a strict order, the
candidates of R73 as bound lines that slot and line index tell apart, and the score of R79 and R80 over the
integers. -/

namespace Sys2Proof.Machine

/-! ### The best element of a list

`better` is a strict order, and of any two elements of the list one is better. -/

section
variable {α : Type} {better : α → α → Bool}

/-- Of the element kept so far and the next one, the one that `best` keeps. -/
def keepBetter (better : α → α → Bool) (b y : α) : α := if better y b then y else b

theorem best_cons (x : α) (xs : List α) :
    best better (x :: xs) = some (xs.foldl (keepBetter better) x) := rfl

@[simp] theorem best_eq_none_iff {l : List α} : best better l = none ↔ l = [] := by
  cases l <;> simp [best]

theorem keepBetter_eq_or (b y : α) : keepBetter better b y = b ∨ keepBetter better b y = y := by
  unfold keepBetter
  split
  · exact .inr rfl
  · exact .inl rfl

/-- Each of the two is the element kept, or the element kept is better. -/
theorem keepBetter_over {b y : α} (htotal : b ≠ y → better b y ∨ better y b) {z : α}
    (hz : z = b ∨ z = y) : z = keepBetter better b y ∨ better (keepBetter better b y) z := by
  unfold keepBetter
  by_cases hyb : better y b
  · rw [if_pos hyb]
    obtain rfl | rfl := hz
    · exact .inr hyb
    · exact .inl rfl
  · rw [if_neg hyb]
    obtain rfl | rfl := hz
    · exact .inl rfl
    · by_cases heq : z = b
      · exact .inl heq
      · exact .inr ((htotal (Ne.symm heq)).resolve_right hyb)

/-- The element kept along a list is one of it, and better than every other. -/
theorem foldl_keepBetter_spec (htrans : ∀ a b c, better a b → better b c → better a c)
    {x : α} {xs : List α}
    (htotal : ∀ a ∈ x :: xs, ∀ b ∈ x :: xs, a ≠ b → better a b ∨ better b a) :
    xs.foldl (keepBetter better) x ∈ x :: xs ∧
      ∀ z ∈ x :: xs, z = xs.foldl (keepBetter better) x ∨
        better (xs.foldl (keepBetter better) x) z := by
  induction xs generalizing x with
  | nil => simp
  | cons y ys ih =>
    rw [List.foldl_cons]
    have hsub : keepBetter better x y :: ys ⊆ x :: y :: ys := by
      obtain hk | hk := keepBetter_eq_or (better := better) x y <;> rw [hk] <;> simp
    obtain ⟨hmem, hover⟩ := ih fun a ha b hb => htotal a (hsub ha) b (hsub hb)
    refine ⟨hsub hmem, fun z hz => ?_⟩
    rw [List.mem_cons, List.mem_cons, ← or_assoc] at hz
    obtain hz | hz := hz
    · have hkept := keepBetter_over (htotal x (by simp) y (by simp)) hz
      obtain hkeep | hkeep := hover _ List.mem_cons_self
      · exact hkeep ▸ hkept
      · obtain rfl | hkept := hkept
        · exact .inr hkeep
        · exact .inr (htrans _ _ _ hkeep hkept)
    · exact hover z (List.mem_cons_of_mem _ hz)

/-- The best element is the one that is better than every other. -/
theorem best_eq_some_iff (hirrefl : ∀ a, better a a = false)
    (htrans : ∀ a b c, better a b → better b c → better a c) {l : List α}
    (htotal : ∀ a ∈ l, ∀ b ∈ l, a ≠ b → better a b ∨ better b a) {c : α} :
    best better l = some c ↔ c ∈ l ∧ ∀ d ∈ l, d ≠ c → better c d := by
  cases l with
  | nil => simp [best]
  | cons x xs =>
    obtain ⟨hmem, hover⟩ := foldl_keepBetter_spec htrans htotal
    rw [best_cons, Option.some_inj]
    constructor
    · rintro rfl
      exact ⟨hmem, fun d hd => (hover d hd).resolve_left⟩
    · rintro ⟨hc, hwins⟩
      refine Classical.byContradiction fun hne => ?_
      have hloop := htrans _ _ _ (hwins _ hmem hne) ((hover c hc).resolve_left (Ne.symm hne))
      rw [hirrefl] at hloop
      exact Bool.false_ne_true hloop

end

/-! ### The candidates -/

theorem BookLaw.order_eq_of_slot_eq {s : State} (h : BookLaw s) {o p : Order}
    (ho : o ∈ s.book.orders) (hp : p ∈ s.book.orders) (hslot : o.slot = p.slot) : o = p := by
  obtain ⟨i, hi, rfl⟩ := List.getElem_of_mem ho
  obtain ⟨j, hj, rfl⟩ := List.getElem_of_mem hp
  have hslots := List.pairwise_iff_getElem.mp h.slots
  obtain hlt | rfl | hgt := Nat.lt_trichotomy i j
  · exact absurd hslot (Nat.ne_of_lt (hslots i j hi hj hlt))
  · rfl
  · exact absurd hslot (Nat.ne_of_gt (hslots j i hj hi hgt))

/-- R73: a candidate of an order is one of its lines that takes the group, while the order is OPEN at a
position of an ENABLED lane. -/
theorem mem_orderCandidates_iff {s : State} {group : Nat} {o : Order} {c : Candidate} :
    c ∈ orderCandidates s group o ↔ c.order = o ∧ o.state = .opened ∧
      o.position = some (c.lane, c.position) ∧ s.laneEnabled c.lane = true ∧
      ∃ l, o.lines[c.line]? = some l ∧ l.kindFor group = some c.kind := by
  obtain ⟨p, lane, position, line, kind⟩ := c
  unfold orderCandidates
  split
  next n q hstate hposition =>
    by_cases henabled : s.laneEnabled n
    · simp only [if_pos henabled, List.mem_filterMap, List.mem_zipIdx_iff_getElem?, Prod.exists,
        Option.map_eq_some_iff, Candidate.mk.injEq, hstate, hposition, Option.some_inj,
        Prod.mk.injEq, true_and]
      constructor
      · rintro ⟨l, i, hline, k, hkind, rfl, rfl, rfl, rfl, rfl⟩
        exact ⟨rfl, ⟨rfl, rfl⟩, henabled, l, hline, hkind⟩
      · rintro ⟨rfl, ⟨rfl, rfl⟩, -, l, hline, hkind⟩
        exact ⟨l, line, hline, kind, hkind, rfl, rfl, rfl, rfl, rfl⟩
    · rw [if_neg henabled]
      simp only [List.not_mem_nil, false_iff]
      rintro ⟨-, -, hbound, hlane, -⟩
      obtain ⟨rfl, -⟩ := Prod.mk.inj (Option.some_inj.mp (hposition.symm.trans hbound))
      exact henabled hlane
  next hnot =>
    simp only [List.not_mem_nil, false_iff]
    rintro ⟨-, hstate, hbound, -⟩
    exact hnot lane position hstate hbound

theorem mem_candidates_iff {s : State} {group : Nat} {c : Candidate} :
    c ∈ candidates s group ↔ c.order ∈ s.book.orders ∧ c ∈ orderCandidates s group c.order := by
  rw [candidates, List.mem_flatMap]
  constructor
  · rintro ⟨o, ho, hc⟩
    obtain ⟨rfl, -⟩ := mem_orderCandidates_iff.mp hc
    exact ⟨ho, hc⟩
  · rintro ⟨ho, hc⟩
    exact ⟨c.order, ho, hc⟩

/-- Slot and line index name a candidate: a book that keeps its law holds a slot once, and an order and its line
leave one kind. -/
theorem BookLaw.candidate_eq {s : State} (h : BookLaw s) {group : Nat} {c d : Candidate}
    (hc : c ∈ candidates s group) (hd : d ∈ candidates s group)
    (hslot : c.order.slot = d.order.slot) (hline : c.line = d.line) : c = d := by
  obtain ⟨hcbook, hc⟩ := mem_candidates_iff.mp hc
  obtain ⟨hdbook, hd⟩ := mem_candidates_iff.mp hd
  have horder : c.order = d.order := h.order_eq_of_slot_eq hcbook hdbook hslot
  obtain ⟨-, -, hcbound, -, l, hcline, hckind⟩ := mem_orderCandidates_iff.mp hc
  obtain ⟨-, -, hdbound, -, m, hdline, hdkind⟩ := mem_orderCandidates_iff.mp hd
  rw [horder, hdbound, Option.some_inj, Prod.mk.injEq] at hcbound
  obtain ⟨hlane, hposition⟩ := hcbound
  rw [horder, hline, hdline, Option.some_inj] at hcline
  rw [← hcline, hdkind, Option.some_inj] at hckind
  obtain ⟨_, _, _, _, _⟩ := c
  obtain ⟨_, _, _, _, _⟩ := d
  simp_all only

/-! ### The winner -/

theorem Candidate.beats_iff {s : State} {c d : Candidate} : c.beats s d = true ↔
    d.score s < c.score s ∨ (d.score s = c.score s ∧ (c.order.slot < d.order.slot ∨
      (c.order.slot = d.order.slot ∧ c.line < d.line))) := by
  simp [Candidate.beats, Candidate.before, eq_comm (a := c.score s)]

theorem Candidate.beats_self (s : State) (c : Candidate) : c.beats s c = false := by
  simp [Candidate.beats, Candidate.before]

theorem Candidate.beats_trans {s : State} (a b c : Candidate) (hab : a.beats s b)
    (hbc : b.beats s c) : a.beats s c := by
  rw [Candidate.beats_iff] at hab hbc ⊢
  omega

/-- Of two candidates one wins over the other. -/
theorem BookLaw.beats_total {s : State} (h : BookLaw s) {group : Nat} {c d : Candidate}
    (hc : c ∈ candidates s group) (hd : d ∈ candidates s group) (hne : c ≠ d) :
    c.beats s d ∨ d.beats s c := by
  have hapart : ¬(c.order.slot = d.order.slot ∧ c.line = d.line) :=
    fun ⟨hslot, hline⟩ => hne (h.candidate_eq hc hd hslot hline)
  rw [Candidate.beats_iff, Candidate.beats_iff]
  omega

theorem winner_eq_none_iff {s : State} {x : Subject} {cs : List Candidate} :
    winner s x cs = none ↔ ∀ c ∈ cs, c.qualifies s x = false := by
  simp [winner, List.filter_eq_nil_iff]

theorem BookLaw.winner_eq_some_iff {s : State} (h : BookLaw s) {group : Nat} {x : Subject}
    {c : Candidate} : winner s x (candidates s group) = some c ↔
      c ∈ candidates s group ∧ c.qualifies s x = true ∧
      ∀ d ∈ candidates s group, d.qualifies s x = true → d ≠ c → c.beats s d := by
  have htotal : ∀ a ∈ (candidates s group).filter (·.qualifies s x),
      ∀ b ∈ (candidates s group).filter (·.qualifies s x), a ≠ b → a.beats s b ∨ b.beats s a :=
    fun a ha b hb => h.beats_total (List.mem_filter.mp ha).left (List.mem_filter.mp hb).left
  rw [winner, best_eq_some_iff (Candidate.beats_self s) Candidate.beats_trans htotal]
  simp only [List.mem_filter, and_assoc, and_imp]

/-! ### The score -/

/-- R79 over the integers: the number of waves that an order is ahead of the counter may be below 0. -/
theorem urgency_eq (dueWave wave : Nat) : (urgency dueWave wave : Int) =
    if (dueWave : Int) - wave ≤ 0 then 1023 else max 0 (1023 - 64 * ((dueWave : Int) - wave)) := by
  unfold urgency
  split <;> split <;> omega

theorem Kind.matchTerm_eq (k : Kind) :
    (k.matchTerm : Int) = match k with | .primary => 256 | .substitute => 0 := by
  cases k <;> rfl

/-- R80: the score is the terms' sum less the distance penalty over the integers, raised to 0. -/
theorem Candidate.score_eq (c : Candidate) (s : State) : (c.score s : Int) =
    max 0 ((urgency c.order.dueWave s.wave.counter : Int) + completion c.order +
      c.kind.matchTerm - (min 1023 (s.params.laneDist.get c.lane / s.params.distDiv) : Nat)) := by
  unfold Candidate.score distancePenalty
  omega

/-- Settles O43: the winner is the best element under `Candidate.beats`, a strict order that is total on the
candidates since slot and line index tell them apart. -/
theorem winnerHasHighestScore : Obligations.WinnerHasHighestScore := by
  refine ⟨fun s group x h => ⟨winner_eq_none_iff, fun c => ?winner⟩, fun s c => ?score⟩
  case winner => simp only [h.winner_eq_some_iff, Candidate.beats_iff]
  case score =>
    rw [c.score_eq, urgency_eq, Kind.matchTerm_eq]
    rfl

end Sys2Proof.Machine
end

section
/-! PROOFS. What an event of a running part is made of: the acts of the blocks, each with the facts its place in the
rules gives, and every operation of the model as a run of acts. A law that every act keeps is kept by every
operation. -/

namespace Sys2Proof.Machine

/-! ### Lists -/

section
variable {α β : Type}

/-- A key that ascends strictly along a list names its members. -/
theorem eq_of_pairwise_lt {l : List α} {d : α → Nat} (h : l.Pairwise fun x y => d x < d y) {x y : α}
    (hx : x ∈ l) (hy : y ∈ l) (heq : d x = d y) : x = y := by
  obtain ⟨i, hi, rfl⟩ := List.getElem_of_mem hx
  obtain ⟨j, hj, rfl⟩ := List.getElem_of_mem hy
  have hkeys := List.pairwise_iff_getElem.mp h
  obtain hlt | rfl | hgt := Nat.lt_trichotomy i j
  · exact absurd heq (Nat.ne_of_lt (hkeys i j hi hj hlt))
  · rfl
  · exact absurd heq (Nat.ne_of_gt (hkeys j i hj hi hgt))

theorem find?_congr_mem {p q : α → Bool} {l : List α} (h : ∀ x ∈ l, p x = q x) :
    l.find? p = l.find? q := by
  induction l with
  | nil => rfl
  | cons x l ih =>
    rw [List.find?_cons, List.find?_cons, h x List.mem_cons_self,
      ih fun y hy => h y (List.mem_cons_of_mem _ hy)]

theorem filterMap_congr_mem {f g : α → Option β} {l : List α} (h : ∀ x ∈ l, f x = g x) :
    l.filterMap f = l.filterMap g := by
  induction l with
  | nil => rfl
  | cons x l ih =>
    rw [List.filterMap_cons, List.filterMap_cons, h x List.mem_cons_self,
      ih fun y hy => h y (List.mem_cons_of_mem _ hy)]

theorem exists_mem_map {f : α → β} {l : List α} {p : β → Prop} :
    (∃ y, y ∈ l.map f ∧ p y) ↔ ∃ x, x ∈ l ∧ p (f x) := by
  constructor
  · rintro ⟨y, hy, hp⟩
    obtain ⟨x, hx, rfl⟩ := List.mem_map.mp hy
    exact ⟨x, hx, hp⟩
  · rintro ⟨x, hx, hp⟩
    exact ⟨f x, List.mem_map_of_mem hx, hp⟩

theorem foldl_of_fixed {f : β → α → β} {b : β} (h : ∀ x, f b x = b) (l : List α) : l.foldl f b = b := by
  induction l with
  | nil => rfl
  | cons x l ih => rw [List.foldl_cons, h x, ih]

theorem getD_of_length_le {l : List α} {i : Nat} (h : l.length ≤ i) (d : α) : l.getD i d = d := by
  rw [List.getD_eq_getElem?_getD, List.getElem?_eq_none h]
  rfl

end

/-! ### The acts -/

/-- The pause state follows a change of its sources, R147, R151, R153. -/
def PauseController.follow (before after : PauseController) : PauseController :=
  match before.wanted, after.wanted with
  | false, true => if after.state = .running then after.move .draining else after
  | true, false => if after.state = .running then after else after.move .running
  | _, _ => after

/-- Whether a lane state is JAMMED, R100. -/
def LaneState.isJammed : LaneState → Bool
  | .jammed _ => true
  | _ => false

/-- An arm becomes JAMMED and its mark is taken, R103. -/
def becomeJammed (a : Arm) (s : State) : State :=
  let s := setChuteEye a { s.divert.eyes.get a with jamDue := false } s
  match a with
  | .lane n => setLane n (.jammed (s.divert.laneStates.get n).returnState) s
  | .reject => s.onDivert fun d => { d with rejectJammed := true }

/-- A confirmed entry leaves the belt queue, and joins the chute list of a lane arm, R94 and R95. -/
def passToChute (a : Arm) (e : Entry) (s : State) : State :=
  match a with
  | .lane n => chuteArrival n e.chuteEntry (removeEntry (Entry.awaits a) s)
  | .reject => removeEntry (Entry.awaits a) s

/-- An entry joins the belt queue at its tail, R89. -/
def joinBelt (e : Entry) (s : State) : State :=
  s.onDivert fun d => { d with queue := d.queue ++ [e] }

/-- What a decision knows of its subject past step 6, R63 and R69 to R71. -/
structure Subject.Known (s : State) (x : Subject) : Prop where
  product : x.product ∈ s.catalogue
  layer : x.entry.layer = some x.product.layer
  grams : x.entry.weight.map (·.grams) = some x.grams

/-- The belt takes another entry: ARMS_LIVE is set and the belt queue has room, R64 and R66. -/
structure BeltOpen (s : State) : Prop where
  live : s.divert.armsLive = true
  room : s.divert.queue.length < 48

/-- An order record as a LOAD_ORDER makes it for an EMPTY slot, R3 to R5. -/
structure Order.Fresh (s : State) (o : Order) : Prop where
  slot : o.slot < 256
  alone : ∀ x ∈ s.book.orders, x.slot ≠ o.slot
  number : ∀ x ∈ s.book.orders, x.number ≠ o.number
  pool : o.lines.length ≤ s.book.freeLines
  state : o.state = .staged
  position : o.position = none
  lines : ∀ l ∈ o.lines, l.reserved = 0 ∧ l.placed = 0
  weights : o.reservedWeight = 0 ∧ o.placedWeight = 0
  layers : o.layerCounts = [0, 0, 0, 0]

/-- One act of a block while an event or a request is taken. None touches the inputs, the parameters, the belt
position or the capture list. -/
inductive Act : State → State → Prop
  | told (r : Report) (s : State) : Act s (report r s)
  | counted (c : Counter) (s : State) : Act s (count c s)
  | marked (l : List Nat) (s : State) : Act s (markAndSend l s)
  | lightSent (s : State) : Act s (lightSent s)
  | laneRx (rx : LaneRx) (s : State) : Act s (s.onWall fun w => { w with rx := rx })
  | flagsCleared (mask : BitVec 32) (s : State) :
      Act s (s.onStatus fun u => { u with flags := clearFlags mask u.flags })
  | countersCleared (first n : Nat) (s : State) :
      Act s (s.onStatus fun u => { u with counters := clearRun first n u.counters })
  | granted (s : State) : s.pause.state = .draining → Act s (s.onPause fun c => c.move .held)
  | stirred (s : State) : s.pause.state = .held → Act s (s.onPause fun c => c.move .draining)
  | sourced (b : Bool) (s : State) :
      Act s (s.onPause fun c => c.follow { c with controlPause := b })
  | waved (f : WaveUnit → WaveUnit) (s : State) : s.wave.counter ≤ (f s.wave).counter →
      Act s (s.onWave f)
  | ranged (f : ClassRangeUnit → ClassRangeUnit) (s : State) : Act s (s.onRanges f)
  | passed (carrier : Nat) (s : State) : carrier ≠ 0 → Act s (s.onRecirc (countPass carrier))
  | forgot (carrier : Nat) (s : State) :
      Act s (s.onRecirc fun t => t.eraseP fun r => r.carrier == carrier)
  | laneSet (n : Lane) (st : LaneState) (s : State) :
      st.isJammed = (s.divert.laneStates.get n).isJammed → Act s (setLane n st s)
  | jammed (a : Arm) (s : State) : (s.divert.eyes.get a).blockStart.isSome →
      Act s (becomeJammed a s)
  | gaveUp (p : Entry → Bool) (reason : OutboundReason) (s : State) :
      (∀ e, p e = true → e.isScheduled = true) → Act s (giveUp p reason s)
  | fired (a : Arm) (s : State) : Act s (fireArm a s)
  | dwellEnded (a : Arm) (s : State) : Act s (endDwell a s)
  | lapsed (a : Arm) (s : State) : Act s (lapseLastFire a s)
  | missed (tag : Tag) (s : State) : Act s (missEntry tag s)
  | left (tag : Tag) (s : State) : Act s (removeEntry (Entry.exitDue tag s.p) s)
  | confirmed (a : Arm) (e : Entry) (s : State) :
      s.divert.queue.find? (Entry.awaits a) = some e → Act s (passToChute a e s)
  | strayed (n : Lane) (s : State) : Act s (strayArrival n s)
  | recirculated (e : Entry) (r : OutboundReason) (s : State) : e.state = .outbound r →
      s.divert.queue.length < 48 → Act s (joinBelt e s)
  | rejected (e : Entry) (r : RejectReason) (s : State) : BeltOpen s →
      s.rejectFits e.lead = true → e.dest = .reject r →
      e.state = .scheduled (beyond e.lead s.params.rejectDist) → Act s (joinBelt e s)
  | placed (c : Candidate) (x : Subject) (e : Entry) (s : State) : BeltOpen s → x.Known s →
      c ∈ candidates s x.product.group → c.qualifies s x = true →
      e.dest = .place c.lane c.position c.order.slot c.line c.kind →
      e.state = .scheduled (c.fire s x.entry.lead) → e.weight = x.entry.weight →
      e.layer = x.entry.layer →
      Act s (joinBelt e (reserve c.order.slot c.line x.grams x.product.layer s))
  | put (n : Lane) (e : ChuteEntry) (rest : List ChuteEntry) (position slot line : Nat)
      (s : State) : s.wall.chutes.get n = e :: rest → e.kind = .put position slot line →
      Act s (confirm slot line ((e.weight.map (·.grams)).getD 0) (e.layer.getD 0)
        (setChute n rest s))
  | took (n : Lane) (e : ChuteEntry) (rest : List ChuteEntry) (s : State) :
      s.wall.chutes.get n = e :: rest → (∀ position slot line, e.kind ≠ .put position slot line) →
      Act s (setChute n rest s)
  | bound (s : State) : Act s (runBinder s)
  | promoted (s : State) : Act s (promote s)
  | emptied (o : Order) (s : State) : o ∈ s.book.orders →
      (o.state ≠ .opened ∧ o.state ≠ .shorting) → Act s (s.onBook fun b => b.empty o)
  | entered (o : Order) (s : State) : o.Fresh s → Act s (s.onBook fun b => b.enter o)
  | enqueued (o : Order) (s : State) : o ∈ s.book.orders → o.state = .staged →
      Act s (s.onBook fun b => b.enqueue o)
  | closed (o : Order) (s : State) : o ∈ s.book.orders → o.state = .opened →
      o.reservations = 0 →
      Act s (s.onBook fun b => b.change o.slot fun x => { x with state := .complete, short := true })
  | shorted (o : Order) (s : State) : o ∈ s.book.orders → o.state = .opened →
      Act s (s.onBook fun b => b.change o.slot fun x => { x with state := .shorting, short := true })
  | cancelled (o : Order) (s : State) : o ∈ s.book.orders →
      (o.state = .opened ∨ o.state = .shorting) → Act s (cancelInFlight o s)
  | armed (s : State) : s.pause.stopAsserted = false → geometryConsistent s.params = true →
      Act s (setArmsLive s)
  | disarmed (s : State) : Act s (clearArmsLive s)

/-- An act, or one that touches the capture list. -/
inductive Deed : State → State → Prop
  | act {s t : State} : Act s t → Deed s t
  | captured (trail : Option Pos) (s : State) : s.capture.list.length < 8 →
      Deed s (s.onCapture fun u =>
        { list := u.list ++ [{ tag := u.nextTag, lead := s.p, trail := trail }]
          nextTag := u.nextTag + 1 })
  | trailed (s : State) : Deed s (trailingEdge s)
  | handed (c : Capture) (rest : List Capture) (s : State) : s.capture.list = c :: rest →
      Deed s (s.onCapture fun u => { u with list := rest })
  | cleared (s : State) : Deed s (clearLists s)

/-- Steps of `R` taken in turn, none or more. -/
inductive Run {α : Type} (R : α → α → Prop) (a : α) : α → Prop
  | refl : Run R a a
  | tail {b c : α} : Run R a b → R b c → Run R a c

theorem Run.single {α : Type} {R : α → α → Prop} {a b : α} (h : R a b) : Run R a b := .tail .refl h

theorem Run.trans {α : Type} {R : α → α → Prop} {a b c : α} (h : Run R a b) (h' : Run R b c) : Run R a c := by
  induction h' with
  | refl => exact h
  | tail _ hstep ih => exact ih.tail hstep

theorem Run.of_eq {α : Type} {R : α → α → Prop} {a b : α} (h : b = a) : Run R a b := h ▸ .refl

theorem Run.mono {α : Type} {R R' : α → α → Prop} (hR : ∀ a b, R a b → R' a b) {a b : α} (h : Run R a b) :
    Run R' a b := by
  induction h with
  | refl => exact .refl
  | tail _ hstep ih => exact ih.tail (hR _ _ hstep)

/-- A run of acts. -/
abbrev Acts : State → State → Prop := Run Act

/-- A run of acts, those that touch the capture list among them. -/
abbrev Deeds : State → State → Prop := Run Deed

theorem Act.acts {s t : State} (h : Act s t) : Acts s t := .single h

theorem Deed.deeds {s t : State} (h : Deed s t) : Deeds s t := .single h

theorem Acts.deeds {s t : State} (h : Acts s t) : Deeds s t := 
  Run.mono (fun _ _ => Deed.act) h

/-- What every step of a run keeps, the run keeps. -/
theorem keeps_of_run {R : State → State → Prop} {P : State → Prop} (hP : ∀ s t, R s t → P s → P t)
    {s t : State} (h : Run R s t) (hs : P s) : P t := by
  induction h with
  | refl => exact hs
  | tail _ hstep ih => exact hP _ _ hstep ih

/-- A run along a list. -/
theorem run_foldl {R : State → State → Prop} {α : Type} {f : State → α → State}
    (h : ∀ t a, Run R t (f t a)) (l : List α) (s : State) :
    Run R s (l.foldl f s) := by
  induction l generalizing s with
  | nil => exact .refl
  | cons a l ih => exact (h s a).trans (ih _)

end Sys2Proof.Machine
end

section
/-! PROOFS. What the releases of a give-up, a cancel or a clear can touch: the Order Book, and the link and the status
by their reports; and the parts of the state that no act touches. -/

namespace Sys2Proof.Machine

/-! ### Releases -/

/-- Only the Order Book, the intake link and the Status Unit differ between two states. -/
def BookOnly (s t : State) : Prop :=
  ∃ b l u, t = { s with book := b, link := l, status := u }

theorem BookOnly.refl (s : State) : BookOnly s s := ⟨s.book, s.link, s.status, rfl⟩

theorem BookOnly.trans {s t u : State} (h : BookOnly s t) (h' : BookOnly t u) : BookOnly s u := by
  obtain ⟨b, l, v, rfl⟩ := h
  obtain ⟨b', l', v', rfl⟩ := h'
  exact ⟨b', l', v', rfl⟩

theorem BookOnly.foldl {α : Type} {f : State → α → State} (h : ∀ t a, BookOnly t (f t a))
    (l : List α) (s : State) : BookOnly s (l.foldl f s) := by
  induction l generalizing s with
  | nil => exact .refl s
  | cons a l ih => exact (h s a).trans (ih _)

theorem enterComplete_bookOnly (o : Order) (short : Bool) (s : State) :
    BookOnly s (enterComplete o short s) := by
  simp only [enterComplete, report_eq_update, count_eq_update]
  exact ⟨_, _, _, rfl⟩

theorem completeCheck_bookOnly (slot : Nat) (s : State) : BookOnly s (completeCheck slot s) := by
  rcases completeCheck_cases slot s with h | ⟨o, short, -, h⟩ <;> rw [h]
  · exact .refl s
  · exact enterComplete_bookOnly o short s

theorem confirm_bookOnly (slot line w l : Nat) (s : State) :
    BookOnly s (confirm slot line w l s) :=
  .trans ⟨_, _, _, rfl⟩ (completeCheck_bookOnly slot _)

theorem release_bookOnly (slot line w l : Nat) (s : State) :
    BookOnly s (release slot line w l s) :=
  .trans ⟨_, _, _, rfl⟩ (completeCheck_bookOnly slot _)

theorem releaseEntry_bookOnly (e : Entry) (s : State) : BookOnly s (releaseEntry e s) := by
  unfold releaseEntry
  split
  · exact release_bookOnly _ _ _ _ s
  · exact .refl s

theorem releaseChute_bookOnly (e : ChuteEntry) (s : State) : BookOnly s (releaseChute e s) := by
  unfold releaseChute
  split
  · exact release_bookOnly _ _ _ _ s
  · exact .refl s

/-- The state of a give-up before its releases, R104, R105, R109. -/
def outbound (p : Entry → Bool) (reason : OutboundReason) (s : State) : State :=
  s.onDivert fun d =>
    { d with queue := d.queue.map fun e => if p e then { e with state := .outbound reason } else e }

theorem giveUp_eq (p : Entry → Bool) (reason : OutboundReason) (s : State) :
    giveUp p reason s =
      (s.divert.queue.filter p).foldl (fun t e => releaseEntry e t) (outbound p reason s) := rfl

theorem giveUp_bookOnly (p : Entry → Bool) (reason : OutboundReason) (s : State) :
    BookOnly (outbound p reason s) (giveUp p reason s) :=
  BookOnly.foldl (fun t e => releaseEntry_bookOnly e t) _ _

/-- The state of a miss before its report and release, R96. -/
def missedState (tag : Tag) (s : State) : State :=
  changeEntry (Entry.missDue tag s.p) (fun e => { e with state := .outbound .missed }) s

theorem missEntry_cases (tag : Tag) (s : State) :
    missEntry tag s = s ∨ ∃ e, s.divert.queue.find? (Entry.missDue tag s.p) = some e ∧
      missEntry tag s = releaseEntry e
        (count .misses (report (missReport e (missedState tag s)) (missedState tag s))) := by
  unfold missEntry
  split
  · exact .inl rfl
  · rename_i e he
    exact .inr ⟨e, he, rfl⟩

theorem missEntry_bookOnly (tag : Tag) (s : State) :
    missEntry tag s = s ∨ BookOnly (missedState tag s) (missEntry tag s) := by
  rcases missEntry_cases tag s with h | ⟨e, -, h⟩
  · exact .inl h
  · rw [h, report_eq_update, count_eq_update]
    exact .inr (.trans ⟨_, _, _, rfl⟩ (releaseEntry_bookOnly e _))

/-- The state of a cancel in flight before its releases, R19 and R115. -/
def cancelledState (o : Order) (s : State) : State :=
  ((s.onBook fun b => b.change o.slot fun x => { x with state := .cancelled }).onDivert fun d =>
    { d with queue := d.queue.map (Entry.cancelFor o.slot) }).onWall fun w =>
    { w with chutes := w.chutes.map fun l => l.map (ChuteEntry.cancelFor o.slot) }

theorem cancelInFlight_eq (o : Order) (s : State) :
    cancelInFlight o s =
      (s.chuteEntries.filter (ChuteEntry.isFor o.slot)).foldl (fun t e => releaseChute e t)
        ((s.divert.queue.filter fun e => e.isFor o.slot && e.holdsReservation).foldl
          (fun t e => releaseEntry e t) (cancelledState o s)) := rfl

theorem cancelInFlight_bookOnly (o : Order) (s : State) :
    BookOnly (cancelledState o s) (cancelInFlight o s) :=
  .trans (BookOnly.foldl (fun t e => releaseEntry_bookOnly e t) _ _)
    (BookOnly.foldl (fun t e => releaseChute_bookOnly e t) _ _)

/-- The state of a LINE_CLEAR before its releases, R157. -/
def emptiedState (s : State) : State :=
  ((s.onCapture fun u => { u with list := [] }).onDivert fun d =>
    { d with queue := [], arms := PerArm.all ArmRec.reset }).onWall fun w =>
    { w with chutes := PerLane.all [] }

theorem clearLists_eq (s : State) :
    clearLists s = s.chuteEntries.foldl (fun t e => releaseChute e t)
      ((s.divert.queue.filter Entry.holdsReservation).foldl (fun t e => releaseEntry e t)
        (emptiedState s)) := rfl

theorem clearLists_bookOnly (s : State) : BookOnly (emptiedState s) (clearLists s) :=
  .trans (BookOnly.foldl (fun t e => releaseEntry_bookOnly e t) _ _)
    (BookOnly.foldl (fun t e => releaseChute_bookOnly e t) _ _)

/-- The state of a clearing of ARMS_LIVE before its give-up, R109. -/
def arrestedState (s : State) : State :=
  s.onDivert fun d =>
    { d with armsLive := false, arms := d.arms.map fun r => { r with output := none } }

theorem clearArmsLive_eq (s : State) :
    clearArmsLive s = giveUp Entry.isScheduled .armsOff (arrestedState s) := rfl

theorem clearArmsLive_bookOnly (s : State) :
    BookOnly (outbound Entry.isScheduled .armsOff (arrestedState s)) (clearArmsLive s) :=
  giveUp_bookOnly _ _ _

/-! ### The divert part of an arm's acts -/

theorem fireArm_cases (a : Arm) (s : State) :
    fireArm a s = s ∨ s.divert.queue.any (Entry.fireDue a s.p) = true ∧
      fireArm a s = count .fires (setArm a
        { lastFire := some s.p, output := some (beyond s.p s.params.armDwell), lapseDue := false }
        (changeEntry (Entry.fireDue a s.p)
          (fun e => { e with state := .fired s.p (beyond s.p s.params.confirmWindow) }) s)) := by
  unfold fireArm
  split
  · rename_i h
    exact .inr ⟨h, rfl⟩
  · exact .inl rfl

theorem endDwell_cases (a : Arm) (s : State) :
    endDwell a s = s ∨
      endDwell a s = setArm a { s.divert.arms.get a with output := none } s := by
  simp only [endDwell]
  split
  · exact .inr rfl
  · exact .inl rfl

theorem lapseLastFire_cases (a : Arm) (s : State) :
    lapseLastFire a s = s ∨
      lapseLastFire a s = setArm a { s.divert.arms.get a with lastFire := none, lapseDue := false } s := by
  simp only [lapseLastFire]
  split
  · exact .inr rfl
  · exact .inl rfl

/-! ### What acts leave -/

/-- The parts of the state that no act touches are the same. -/
structure Steady (s t : State) : Prop where
  pending : t.pending = s.pending
  inReset : t.inReset = s.inReset
  pins : t.pins = s.pins
  belt : t.belt = s.belt
  capture : t.capture = s.capture
  catalogue : t.catalogue = s.catalogue
  params : t.params = s.params
  stop : t.pause.stopAsserted = s.pause.stopAsserted
  request : t.pause.requestAsserted = s.pause.requestAsserted

theorem Steady.refl (s : State) : Steady s s := ⟨rfl, rfl, rfl, rfl, rfl, rfl, rfl, rfl, rfl⟩

theorem Steady.trans {s t u : State} (h : Steady s t) (h' : Steady t u) : Steady s u :=
  ⟨h'.pending.trans h.pending, h'.inReset.trans h.inReset, h'.pins.trans h.pins,
    h'.belt.trans h.belt, h'.capture.trans h.capture, h'.catalogue.trans h.catalogue, h'.params.trans h.params,
    h'.stop.trans h.stop, h'.request.trans h.request⟩

theorem BookOnly.steady {s t : State} (h : BookOnly s t) : Steady s t := by
  obtain ⟨b, l, u, rfl⟩ := h
  exact ⟨rfl, rfl, rfl, rfl, rfl, rfl, rfl, rfl, rfl⟩

theorem BookOnly.steady_from {s t u : State} (h : BookOnly t u) (hst : Steady s t) : Steady s u :=
  hst.trans h.steady

theorem PauseController.follow_inputs (before after : PauseController) :
    (before.follow after).stopAsserted = after.stopAsserted ∧
      (before.follow after).requestAsserted = after.requestAsserted := by
  unfold PauseController.follow
  split <;> (try split) <;> exact ⟨rfl, rfl⟩

theorem Act.steady {s t : State} (h : Act s t) : Steady s t := by
  cases h
  case told | counted | marked | bound | promoted => constructor <;> simp
  case lightSent =>
    unfold Machine.lightSent
    split
    · exact .refl s
    · constructor <;> simp
  case sourced b =>
    obtain ⟨hstop, hrequest⟩ :=
      PauseController.follow_inputs s.pause { s.pause with controlPause := b }
    exact ⟨rfl, rfl, rfl, rfl, rfl, rfl, rfl, hstop, hrequest⟩
  case jammed a _ => cases a <;> exact ⟨rfl, rfl, rfl, rfl, rfl, rfl, rfl, rfl, rfl⟩
  case gaveUp p reason _ =>
    exact (giveUp_bookOnly p reason s).steady_from
      ⟨rfl, rfl, rfl, rfl, rfl, rfl, rfl, rfl, rfl⟩
  case fired a =>
    rcases fireArm_cases a s with h | ⟨-, h⟩ <;> rw [h]
    · exact .refl s
    · exact ⟨rfl, rfl, rfl, rfl, rfl, rfl, rfl, rfl, rfl⟩
  case dwellEnded a =>
    rcases endDwell_cases a s with h | h <;> rw [h]
    · exact .refl s
    · exact ⟨rfl, rfl, rfl, rfl, rfl, rfl, rfl, rfl, rfl⟩
  case lapsed a =>
    rcases lapseLastFire_cases a s with h | h <;> rw [h]
    · exact .refl s
    · exact ⟨rfl, rfl, rfl, rfl, rfl, rfl, rfl, rfl, rfl⟩
  case missed tag =>
    rcases missEntry_bookOnly tag s with h | h
    · rw [h]; exact .refl s
    · exact h.steady_from ⟨rfl, rfl, rfl, rfl, rfl, rfl, rfl, rfl, rfl⟩
  case confirmed a _ _ => cases a <;> exact ⟨rfl, rfl, rfl, rfl, rfl, rfl, rfl, rfl, rfl⟩
  case put =>
    exact (confirm_bookOnly _ _ _ _ _).steady_from
      ⟨rfl, rfl, rfl, rfl, rfl, rfl, rfl, rfl, rfl⟩
  case cancelled o _ _ =>
    exact (cancelInFlight_bookOnly o s).steady_from
      ⟨rfl, rfl, rfl, rfl, rfl, rfl, rfl, rfl, rfl⟩
  case disarmed =>
    exact (clearArmsLive_bookOnly s).steady_from
      ⟨rfl, rfl, rfl, rfl, rfl, rfl, rfl, rfl, rfl⟩
  all_goals exact ⟨rfl, rfl, rfl, rfl, rfl, rfl, rfl, rfl, rfl⟩

theorem Acts.steady {s t : State} (h : Acts s t) : Steady s t := by
  induction h with
  | refl => exact .refl s
  | tail _ hact ih => exact ih.trans hact.steady

end Sys2Proof.Machine
end

section
/-! PROOFS. The operations of the model as runs of acts: waves and the pause, lights, the Divert Scheduler, the
placement decision, the Capture Unit, and the lane link. -/

namespace Sys2Proof.Machine

/-! ### Waves and the pause -/

theorem advance_acts (detail : Nat) (s : State) : Acts s (advance detail s) := by
  have hwave : Acts s (s.onWave fun w =>
      { w with counter := bump16 w.counter, releases := 0, latch := .notHeld }) :=
    (Act.waved _ s (by simp only [bump16]; split <;> omega)).acts
  exact ((hwave.tail (.ranged _ _)).tail (.promoted _)).tail (.told _ _)

theorem performLatched_acts (s : State) : Acts s (performLatched s) := by
  unfold performLatched
  split
  · exact .refl
  · exact advance_acts 2 s
  · exact advance_acts 3 s

theorem countRelease_acts (s : State) : Acts s (countRelease s) := by
  have hcount : Acts s (s.onWave fun w => { w with releases := bump16 w.releases }) :=
    (Act.waved _ s (Nat.le_refl _)).acts
  simp only [countRelease]
  split
  · split
    · exact hcount.tail (.waved _ _ (Nat.le_refl _))
    · exact hcount.trans (advance_acts 1 _)
  · exact hcount

theorem drainTest_acts (s : State) : Acts s (drainTest s) := by
  unfold drainTest
  split
  · rename_i h
    exact (Act.granted s h.left).acts.tail (.told _ _)
  · exact .refl

/-- The moves and reports that follow a change of the pause's sources, R151 and R153. -/
theorem afterSource_acts (before : PauseController) (detail : Nat) (s : State) :
    Acts (s.onPause fun c => before.follow c) (afterSource before.wanted detail s) := by
  unfold afterSource
  split
  · unfold pauseWanted
    split
    · simp only [State.onPause, PauseController.follow, *, reduceIte]
      exact drainTest_acts _
    · simp only [State.onPause, PauseController.follow, *, reduceIte]
      exact .refl
  · unfold pauseUnwanted
    split
    · simp only [State.onPause, PauseController.follow, *, reduceIte]
      exact .refl
    · simp only [State.onPause, PauseController.follow, *, reduceIte, reduceCtorEq]
      exact (Act.told _ _).acts.trans (performLatched_acts _)
    · simp only [State.onPause, PauseController.follow, *, reduceIte, reduceCtorEq]
      exact performLatched_acts _
  · have hstay : (s.onPause fun c => before.follow c) = s := by
      simp only [State.onPause, PauseController.follow]
    exact .of_eq hstay.symm

theorem captureMade_acts (s : State) : Acts s (captureMade s) := by
  unfold captureMade
  split
  · exact (Act.stirred s ‹_›).acts
  · exact .refl

/-! ### Lights -/

theorem relight_acts (before s : State) : Acts s (relight before s) := by
  unfold relight
  split
  · exact .refl
  · exact (Act.marked _ s).acts

theorem withLights_acts {f : State → State} {s : State} (h : Acts s (f s)) :
    Acts s (withLights f s) := h.trans (relight_acts s _)

/-! ### The Divert Scheduler -/

theorem passOf_acts (carrier : Option Nat) (r : OutboundReason) (s : State) :
    Acts s (passOf carrier r s) := by
  unfold passOf
  split
  · exact .refl
  · split
    · exact .refl
    · rename_i c h
      exact (Act.passed c s fun hc => h (.inl hc)).acts

theorem forgetCarrier_acts (carrier : Option Nat) (s : State) :
    Acts s (forgetCarrier carrier s) := by
  unfold forgetCarrier
  split
  · exact .refl
  · split
    · exact .refl
    · exact (Act.forgot _ s).acts

theorem exited_acts (e : Entry) (s : State) : Acts s (exited e s) := by
  have hcount : Acts s (count .recirculations s) := (Act.counted _ s).acts
  simp only [exited]
  split
  · exact hcount.trans (passOf_acts _ _ _)
  · exact hcount

theorem exitEntry_acts (tag : Tag) (s : State) : Acts s (exitEntry tag s) := by
  unfold exitEntry
  split
  · exact .refl
  · exact ((Act.left tag s).acts.trans (exited_acts _ _)).trans (drainTest_acts _)

theorem jamArm_acts (a : Arm) (s : State) : Acts s (jamArm a s) := by
  simp only [jamArm]
  split
  · rename_i h
    have hjam : Acts s (becomeJammed a s) := (Act.jammed a s h.right.left).acts
    cases a with
    | lane n =>
      exact (hjam.tail (.told _ _)).tail
        (.gaveUp _ _ _ fun e he => (Bool.and_eq_true _ _ ▸ he).right)
    | reject =>
      exact (hjam.tail (.told _ _)).tail
        (.gaveUp _ _ _ fun e he => (Bool.and_eq_true _ _ ▸ he).right)
  · exact .refl

/-! ### Entries appended -/

theorem BeltOpen.of_divert_eq {s t : State} (h : BeltOpen s) (heq : t.divert = s.divert) :
    BeltOpen t := ⟨heq ▸ h.live, heq ▸ h.room⟩

/-- The entry with its exit position X, R89. -/
def Entry.withExit (e : Entry) (s : State) : Entry :=
  { e with exitAt := beyond e.lead s.params.exitDist }

/-- A SCHEDULED entry joins the queue, and is fired at once where its fire position is P, R91. -/
theorem appendEntry_of_scheduled {e : Entry} {f : Pos} {a : Arm} {s : State}
    (he : e.state = .scheduled f) (ha : e.dest.arm = some a) :
    appendEntry e s =
      if f = s.p then fireArm a (joinBelt (e.withExit s) s) else joinBelt (e.withExit s) s := by
  simp only [appendEntry, he, ha, joinBelt, Entry.withExit]

/-- An OUTBOUND entry joins the queue, or exits at once where its age is EXIT_DIST or more, R98. -/
theorem appendEntry_of_outbound {e : Entry} {r : OutboundReason} {s : State}
    (he : e.state = .outbound r) :
    appendEntry e s =
      if s.params.exitDist ≤ ahead e.lead s.p then exited (e.withExit s) s
      else joinBelt (e.withExit s) s := by
  simp only [appendEntry, he, joinBelt, Entry.withExit]

theorem appendEntry_outbound_acts {e : Entry} {r : OutboundReason} {s : State}
    (he : e.state = .outbound r) (hroom : s.divert.queue.length < 48) :
    Acts s (appendEntry e s) := by
  rw [appendEntry_of_outbound he]
  split
  · exact exited_acts _ s
  · exact (Act.recirculated (e.withExit s) r s he hroom).acts

theorem appendEntry_scheduled_acts {e : Entry} {f : Pos} {a : Arm} {s : State}
    (he : e.state = .scheduled f) (ha : e.dest.arm = some a) :
    Acts (joinBelt (e.withExit s) s) (appendEntry e s) := by
  rw [appendEntry_of_scheduled he ha]
  split
  · exact (Act.fired a _).acts
  · exact .refl

theorem recirculate_acts (e : Entry) (r : RecirculateReason) {s : State}
    (hroom : s.divert.queue.length < 48) : Acts s (recirculate e r s) := by
  cases r <;> exact appendEntry_outbound_acts rfl hroom

theorem rejectItem_acts (e : Entry) (r : RejectReason) {s : State} (h : BeltOpen s) :
    Acts s (rejectItem e r s) := by
  have hcounted : BeltOpen (count .rejectsDecided s) := h.of_divert_eq rfl
  refine (Act.counted .rejectsDecided s).acts.trans ?_
  unfold rejectItem
  by_cases hfits : s.rejectFits e.lead = true
  · simp only [hfits, reduceIte]
    refine .trans (Act.acts (Act.rejected (Entry.withExit _ _) r _ hcounted ?_ ?_ ?_))
      (appendEntry_scheduled_acts rfl rfl)
    · exact hfits
    · rfl
    · rfl
  · simp only [hfits, Bool.false_eq_true, reduceIte]
    exact appendEntry_outbound_acts rfl h.room

theorem rejectReported_acts (e : Entry) (r : RejectReason) (kind : EventKind) (detail : Nat)
    (sc : Scan) {s : State} (h : BeltOpen s) : Acts s (rejectReported e r kind detail sc s) :=
  .trans (Act.told _ s).acts (rejectItem_acts e r (h.of_divert_eq (report_divert _ s)))

/-! ### The placement decision -/

theorem classRefusal_acts (c : Candidate) (cause : Cause) (sc : Scan) (s : State) :
    Acts s (classRefusal c cause sc s) := (Act.ranged _ s).acts.tail (.told _ _)

theorem place_acts {c : Candidate} {x : Subject} {s : State} (h : BeltOpen s) (hx : x.Known s)
    (hc : c ∈ candidates s x.product.group) (hq : c.qualifies s x = true) :
    Acts s (place c x s) := by
  refine .tail ?_ (.counted .placements _)
  refine .trans (Act.acts (Act.placed c x (Entry.withExit _ _) s h hx hc hq ?_ ?_ ?_ ?_))
    (appendEntry_scheduled_acts rfl rfl)
  all_goals rfl

theorem unplaceable_acts (x : Subject) (cs : List Candidate) {s : State} (h : BeltOpen s) :
    Acts s (unplaceable x cs s) := by
  have hrefusal : ∀ t, (t = s ∨ ∃ c cause, t = classRefusal c cause x.scan s) →
      Acts s (recirculate x.entry .unplaceable t) := by
    rintro t (rfl | ⟨c, cause, rfl⟩)
    · exact recirculate_acts _ _ h.room
    · exact (classRefusal_acts c cause x.scan s).trans
        (recirculate_acts _ _ (by simpa [classRefusal] using h.room))
  refine hrefusal _ ?_
  split
  · split
    · exact .inl rfl
    · split
      · exact .inl rfl
      · exact .inr ⟨_, _, rfl⟩
  · exact .inl rfl

theorem best_mem {α : Type} {better : α → α → Bool} {l : List α} {x : α}
    (h : best better l = some x) : x ∈ l := by
  have hfold : ∀ (l : List α) (b : α),
      l.foldl (fun b y => if better y b then y else b) b ∈ b :: l := by
    intro l
    induction l with
    | nil => intro b; exact List.mem_cons_self
    | cons y l ih =>
      intro b
      rw [List.foldl_cons]
      split
      · exact List.mem_cons_of_mem _ (ih y)
      · rcases List.mem_cons.mp (ih b) with heq | hmem
        · rw [heq]; exact List.mem_cons_self
        · exact List.mem_cons_of_mem _ (List.mem_cons_of_mem _ hmem)
  cases l with
  | nil => cases h
  | cons b l => cases h; exact hfold l b

theorem placeOrRecirculate_acts {x : Subject} {s : State} (h : BeltOpen s) (hx : x.Known s) :
    Acts s (placeOrRecirculate x s) := by
  simp only [placeOrRecirculate]
  split
  · rename_i c hwin
    obtain ⟨hc, hq⟩ := List.mem_filter.mp (best_mem hwin)
    exact place_acts h hx hc hq
  · exact unplaceable_acts x _ h

theorem passLimitStep_acts {x : Subject} {s : State} (h : BeltOpen s) (hx : x.Known s) :
    Acts s (passLimitStep x s) := by
  unfold passLimitStep
  split
  · exact rejectReported_acts _ _ _ _ _ h
  · exact placeOrRecirculate_acts h hx

/-- The weight step knows the product, the layer and the weight it hands on, R70 and R71. -/
theorem weightStep_acts {e : Entry} {r : Product} {sc : Scan} {s : State} (h : BeltOpen s)
    (hr : r ∈ s.catalogue) (hlayer : e.layer = some r.layer) (hweight : e.weight = sc.measured) :
    Acts s (weightStep e r sc s) := by
  unfold weightStep
  split
  · exact .trans (Act.counted _ s).acts
      (passLimitStep_acts (h.of_divert_eq rfl) ⟨hr, hlayer, rfl⟩)
  · rename_i hpresent
    split
    · exact .trans (Act.counted _ s).acts (rejectReported_acts _ _ _ _ _ (h.of_divert_eq rfl))
    · refine passLimitStep_acts h ⟨hr, hlayer, ?_⟩
      simp only [hweight, Scan.measured, hpresent, reduceIte, Option.map_some]

theorem catalogueStep_acts {e : Entry} {sc : Scan} {s : State} (h : BeltOpen s)
    (hweight : e.weight = sc.measured) : Acts s (catalogueStep e sc s) := by
  unfold catalogueStep
  split
  · exact .trans (Act.counted _ s).acts (rejectReported_acts _ _ _ _ _ (h.of_divert_eq rfl))
  · rename_i r hr
    exact weightStep_acts h (List.mem_of_find?_eq_some hr) rfl hweight

theorem doubleStep_acts {it : Item} {sc : Scan} {s : State} (h : BeltOpen s)
    (hscan : it.scan = some sc) : Acts s (doubleStep it sc s) := by
  unfold doubleStep
  split
  · exact .trans (Act.counted _ s).acts (rejectReported_acts _ _ _ _ _ (h.of_divert_eq rfl))
  · exact catalogueStep_acts h (by simp [Item.entry, hscan])

theorem noReadStep_acts (it : Item) {s : State} (h : BeltOpen s) : Acts s (noReadStep it s) := by
  unfold noReadStep
  split
  · exact recirculate_acts _ _ h.room
  · exact rejectItem_acts _ _ h

theorem reportNoRead_acts (it : Item) (s : State) : Acts s (reportNoRead it s) := by
  unfold reportNoRead
  split
  · exact .refl
  · exact (Act.told _ s).acts.tail (.counted _ _)

theorem goodRead_scan {it : Item} {sc : Scan} (h : it.goodRead = some sc) : it.scan = some sc := by
  unfold Item.goodRead at h
  split at h
  · split at h
    · rename_i heq _
      exact heq.trans h
    · cases h
  · cases h

theorem placementDecision_acts (it : Item) (s : State) : Acts s (placementDecision it s) := by
  refine (reportNoRead_acts it s).trans ?_
  simp only [placementDecision]
  split
  · exact (Act.told _ _).acts.tail (.counted _ _)
  · rename_i hroom
    have hroom : (reportNoRead it s).divert.queue.length < 48 := Nat.lt_of_not_le hroom
    split
    · exact recirculate_acts _ _ hroom
    · rename_i hlive
      have hopen : BeltOpen (reportNoRead it s) := ⟨Bool.of_not_eq_false hlive, hroom⟩
      split
      · exact noReadStep_acts it hopen
      · exact doubleStep_acts hopen (goodRead_scan ‹_›)

theorem handItem_acts (it : Item) (s : State) : Acts s (handItem it s) :=
  (placementDecision_acts it s).trans (drainTest_acts _)

/-! ### The Put Wall Controller -/

theorem OrderBook.boundAt_mem {b : OrderBook} {n : Lane} {position : Nat} {o : Order}
    (h : b.boundAt n position = some o) : o ∈ b.orders := List.mem_of_find?_eq_some h

/-- A position whose light is CLOSE or CLEAR is bound to an order that is COMPLETE or CANCELLED, R116. -/
theorem state_of_light {s : State} {n : Lane} {position : Nat} {o : Order}
    (hlight : light s n position = .close ∨ light s n position = .clear)
    (ho : s.book.boundAt n position = some o) : o.state = .complete ∨ o.state = .cancelled := by
  unfold light at hlight
  rw [ho, Option.map_some] at hlight
  split at hlight
  · simp at hlight
  · split at hlight
    · simp at hlight
    · cases hstate : o.state <;> simp [hstate] at hlight ⊢

theorem positionRelease_acts {n : Lane} {position : Nat} {s : State}
    (hlight : light s n position = .close ∨ light s n position = .clear) :
    Acts s (positionRelease n position s) := by
  unfold positionRelease
  split
  · exact .refl
  · rename_i o ho
    have hstate := state_of_light hlight ho
    have hempty : Acts s ((report (releaseReport n position o) s).onBook fun b => b.empty o) :=
      (Act.told _ s).acts.tail (.emptied o _ (by simpa using OrderBook.boundAt_mem ho)
        (by rcases hstate with h | h <;> simp [h]))
    exact (hempty.trans (countRelease_acts _)).tail (.bound _)

theorem takeHead_acts {n : Lane} {e : ChuteEntry} {rest : List ChuteEntry} {s : State}
    (hhead : s.wall.chutes.get n = e :: rest) : Acts s (takeHead n e rest s) := by
  simp only [takeHead]
  split
  · rename_i slot line hkind
    exact (Act.put n e rest _ slot line s hhead hkind).acts.tail (.counted _ _)
  · rename_i hkind
    exact (Act.took n e rest s hhead fun _ _ _ h => hkind _ _ _ h).acts

theorem releaseOrWrong_acts (n : Lane) (position : Nat) (s : State) :
    Acts s (releaseOrWrong n position s) := by
  unfold releaseOrWrong
  split
  · exact positionRelease_acts (.inl ‹_›)
  · exact positionRelease_acts (.inr ‹_›)
  · exact (Act.told _ s).acts.tail (.counted _ _)

theorem keyPress_acts (n : Lane) (position : Nat) (s : State) :
    Acts s (keyPress n position s) := by
  unfold keyPress
  split
  · split
    · exact takeHead_acts ‹_›
    · exact releaseOrWrong_acts n position s
  · exact releaseOrWrong_acts n position s

/-! ### The Capture Unit -/

theorem makeCapture_deeds (trail : Option Pos) {s : State} (hroom : s.capture.list.length < 8) :
    Deeds s (makeCapture s.p trail s) :=
  ((Deed.captured trail s hroom).deeds.tail (.act (.counted _ _))).trans
    (captureMade_acts _).deeds

theorem leadingEdge_deeds (s : State) : Deeds s (leadingEdge s) := by
  unfold leadingEdge
  split
  · exact makeCapture_deeds none ‹_›
  · exact Acts.deeds ((Act.told _ s).acts.tail (.counted _ _))

theorem expireHead_deeds (s : State) : Deeds s (expireHead s) := by
  unfold expireHead
  split
  · exact .refl
  · split
    · exact (Deed.handed _ _ s ‹_›).deeds.trans (handItem_acts _ _).deeds
    · exact .refl

theorem sweep_deeds (n : Nat) (s : State) : Deeds s (sweep n s) := by
  induction n generalizing s with
  | zero => exact .refl
  | succ n ih => exact (expireHead_deeds s).trans (ih _)

theorem pairScan_deeds (sc : Scan) (s : State) : Deeds s (pairScan sc s) := by
  have horphan : ∀ d, Deeds s (orphanScan d sc s) := fun d =>
    Acts.deeds ((Act.told _ s).acts.tail (.counted _ _))
  unfold pairScan
  split
  · exact horphan 0
  · split
    · exact horphan 1
    · exact ((Deed.handed _ _ s ‹_›).deeds.tail (.act (.counted _ _))).trans
        (handItem_acts _ _).deeds

theorem scanArrival_deeds (sc : Scan) (s : State) : Deeds s (scanArrival sc s) :=
  (sweep_deeds _ s).trans (pairScan_deeds sc _)

/-! ### The lane link -/

theorem linkError_acts (detail : Nat) (s : State) : Acts s (linkError detail s) :=
  (Act.told _ s).acts.tail (.counted _ _)

theorem laneFrame_acts (lane kind position value : Byte) (s : State) :
    Acts s (laneFrame lane kind position value s) := by
  have herror : ∀ n, Acts s (laneFrame.linkErrorOn n s) := fun n =>
    (Act.told _ s).acts.tail (.counted _ _)
  unfold laneFrame
  split
  · exact herror 0
  · split
    · split
      · exact (Act.marked _ s).acts
      · exact withLights_acts (keyPress_acts _ _ s)
    · exact herror _

theorem judgeLaneFrame_acts (got : List Byte) (s : State) : Acts s (judgeLaneFrame got s) := by
  unfold judgeLaneFrame
  split
  · exact laneFrame_acts _ _ _ _ s
  · exact linkError_acts _ s

theorem laneByte_acts (s : State) (b : Byte) : Acts s (laneByte s b) := by
  unfold laneByte
  split
  · split
    · exact (Act.laneRx _ s).acts
    · exact .refl
  · split
    · exact (Act.laneRx _ s).acts
    · exact (Act.laneRx _ s).acts.trans (judgeLaneFrame_acts _ _)

theorem laneBytes_acts (bytes : List Byte) (s : State) : Acts s (laneBytes bytes s) :=
  run_foldl laneByte_acts bytes s

end Sys2Proof.Machine
end

section
/-! PROOFS. What moves the belt: the edges and filters of the eyes as turns, the counts, the inputs and the writes of
the parameters as moves, and the frames of the intake link. -/

namespace Sys2Proof.Machine

/-! ### Deeds, and what they leave -/

/-- The parts of the state that no deed and no turn of an eye touches are the same. -/
structure Firm (s t : State) : Prop where
  pending : t.pending = s.pending
  inReset : t.inReset = s.inReset
  pins : t.pins = s.pins
  p : t.belt.p = s.belt.p
  phase : t.belt.phase = s.belt.phase
  catalogue : t.catalogue = s.catalogue
  params : t.params = s.params
  stop : t.pause.stopAsserted = s.pause.stopAsserted
  request : t.pause.requestAsserted = s.pause.requestAsserted

theorem Firm.refl (s : State) : Firm s s := ⟨rfl, rfl, rfl, rfl, rfl, rfl, rfl, rfl, rfl⟩

theorem Firm.trans {s t u : State} (h : Firm s t) (h' : Firm t u) : Firm s u :=
  ⟨h'.pending.trans h.pending, h'.inReset.trans h.inReset, h'.pins.trans h.pins, h'.p.trans h.p,
    h'.phase.trans h.phase, h'.catalogue.trans h.catalogue, h'.params.trans h.params,
    h'.stop.trans h.stop, h'.request.trans h.request⟩

theorem Steady.firm {s t : State} (h : Steady s t) : Firm s t :=
  ⟨h.pending, h.inReset, h.pins, congrArg _ h.belt, congrArg _ h.belt, h.catalogue, h.params,
    h.stop, h.request⟩

theorem firm_of_run {R : State → State → Prop} (hR : ∀ s t, R s t → Firm s t) {s t : State}
    (h : Run R s t) : Firm s t :=
  keeps_of_run (P := Firm s) (fun _ _ hstep hs => hs.trans (hR _ _ hstep)) h (.refl s)

theorem Deed.belt {s t : State} (h : Deed s t) : t.belt = s.belt := by
  cases h
  case act h => exact h.steady.belt
  case cleared => exact (clearLists_bookOnly s).steady.belt
  all_goals rfl

theorem Deed.firm {s t : State} (h : Deed s t) : Firm s t := by
  cases h
  case act h => exact h.steady.firm
  case cleared =>
    exact .trans (t := emptiedState s) ⟨rfl, rfl, rfl, rfl, rfl, rfl, rfl, rfl, rfl⟩
      (clearLists_bookOnly s).steady.firm
  all_goals exact ⟨rfl, rfl, rfl, rfl, rfl, rfl, rfl, rfl, rfl⟩

theorem Deeds.belt {s t : State} (h : Deeds s t) : t.belt = s.belt :=
  keeps_of_run (P := fun u => u.belt = s.belt) (fun _ _ hstep hs => hstep.belt.trans hs) h rfl

/-! ### Edges -/

/-- A deed, or the change of the eyes' records and of what is JAMMED that an edge makes first. -/
inductive Work : State → State → Prop
  | deed {s t : State} : Deed s t → Work s t
  | touched (v : PerEye EyeFilter) (es : PerArm ChuteEye) (ls : PerLane LaneState) (rj : Bool)
      (s : State) : Work s
        { s with
          belt := { s.belt with eyes := v }
          divert := { s.divert with eyes := es, laneStates := ls, rejectJammed := rj } }

/-- A run of works. -/
abbrev Works : State → State → Prop := Run Work

theorem Deeds.works {s t : State} (h : Deeds s t) : Works s t :=
  Run.mono (fun _ _ => Work.deed) h

theorem Work.firm {s t : State} (h : Work s t) : Firm s t := by
  cases h
  case deed h => exact h.firm
  case touched => exact ⟨rfl, rfl, rfl, rfl, rfl, rfl, rfl, rfl, rfl⟩

theorem setChuteEye_works (a : Arm) (r : ChuteEye) (s : State) : Works s (setChuteEye a r s) :=
  .single (.touched s.belt.eyes (s.divert.eyes.set a r) s.divert.laneStates s.divert.rejectJammed s)

theorem setFilter_works (e : Eye) (f : EyeFilter) (s : State) : Works s (setFilter e f s) :=
  .single (.touched (s.belt.eyes.set e f) s.divert.eyes s.divert.laneStates s.divert.rejectJammed s)

/-- After its stamp a blocking edge at a chute eye is a run of acts, R94 and R95. -/
theorem chuteBlocked_acts (a : Arm) (s : State) :
    Acts (setChuteEye a { blockStart := some s.p, jamDue := false } s) (chuteBlocked a s) := by
  simp only [chuteBlocked]
  split
  · rename_i e he
    have hpass : Acts (setChuteEye a { blockStart := some s.p, jamDue := false } s)
        (passToChute a e (setChuteEye a { blockStart := some s.p, jamDue := false } s)) :=
      (Act.confirmed a e _ he).acts
    cases a <;> exact (hpass.trans (forgetCarrier_acts _ _)).trans (drainTest_acts _)
  · cases a with
    | lane n => exact ((Act.told _ _).acts.tail (.counted _ _)).tail (.strayed n _)
    | reject => exact (Act.told _ _).acts.tail (.counted _ _)

/-- The mark of a jam goes with the jam, R106. -/
def unjam (a : Arm) (s : State) : State :=
  match a with
  | .lane n => match s.divert.laneStates.get n with
    | .jammed r => setLane n r.laneState s
    | _ => s
  | .reject => s.onDivert fun d => { d with rejectJammed := false }

theorem clearJam_acts (a : Arm) (s : State) : Acts (unjam a s) (clearJam a s) := by
  cases a with
  | lane n =>
    rcases h : s.divert.laneStates.get n with _ | _ | r
    · simp only [unjam, clearJam, h]
      exact .refl
    · simp only [unjam, clearJam, h]
      exact .refl
    · simp only [unjam, clearJam, h]
      split
      · exact (Act.told _ _).acts.tail (.bound _)
      · exact (Act.told _ _).acts
  | reject =>
    simp only [unjam, clearJam]
    split
    · exact (Act.told _ _).acts
    · rename_i h
      rw [← eq_false_of_ne_true h]
      exact .refl

theorem unjam_works (a : Arm) (s : State) : Works s (unjam a s) := by
  cases a with
  | lane n =>
    simp only [unjam]
    split
    · exact .single (.touched _ _ _ _ s)
    · exact .refl
  | reject => exact .single (.touched _ _ _ _ s)

theorem takeEdge_works (e : Eye) (blocking : Bool) (s : State) :
    Works s (takeEdge e blocking s) := by
  cases e with
  | cap =>
    simp only [takeEdge]
    split
    · exact (leadingEdge_deeds s).works
    · exact .single (.deed (.trailed s))
  | chute a =>
    simp only [takeEdge]
    split
    · exact ((setChuteEye_works a _ s).trans (chuteBlocked_acts a s).deeds.works).trans
        (relight_acts s _).deeds.works
    · exact (((withLights_acts (jamArm_acts a s)).deeds.works.trans
        (setChuteEye_works a _ _)).trans (unjam_works a _)).trans (clearJam_acts a _).deeds.works

theorem makeEdge_works (e : Eye) (s : State) : Works s (makeEdge e s) :=
  (setFilter_works e _ s).trans (takeEdge_works e _ _)

theorem unjam_belt (a : Arm) (s : State) : (unjam a s).belt = s.belt := by
  cases a with
  | lane n => simp only [unjam]; split <;> rfl
  | reject => rfl

/-- An edge leaves the Belt Position Unit as it finds it. -/
theorem takeEdge_belt (e : Eye) (blocking : Bool) (s : State) :
    (takeEdge e blocking s).belt = s.belt := by
  cases e with
  | cap =>
    simp only [takeEdge]
    split
    · exact (leadingEdge_deeds s).belt
    · rfl
  | chute a =>
    simp only [takeEdge]
    split
    · exact (Acts.steady ((chuteBlocked_acts a s).trans (relight_acts s _))).belt
    · exact ((clearJam_acts a _).steady.belt.trans (unjam_belt a _)).trans
        (withLights_acts (jamArm_acts a s)).steady.belt

/-! ### Turns of the eyes -/

/-- A deed, or what the input levels make of an eye's filter, R46. -/
inductive Turn : State → State → Prop
  | deed {s t : State} : Deed s t → Turn s t
  | edge (e : Eye) (s : State) : s.rawLevel e ≠ (s.belt.eyes.get e).blocked →
      Turn s (makeEdge e s)
  | filtered (e : Eye) (k : Nat) (s : State) :
      (s.rawLevel e ≠ (s.belt.eyes.get e).blocked ∨ k = 0) →
      Turn s (setFilter e { s.belt.eyes.get e with count := k } s)

/-- A run of turns. -/
abbrev Turns : State → State → Prop := Run Turn

theorem Turn.works {s t : State} (h : Turn s t) : Works s t := by
  cases h
  case deed h => exact .single (.deed h)
  case edge e _ => exact makeEdge_works e s
  case filtered e k _ => exact setFilter_works e _ s

theorem Turns.works {s t : State} (h : Turns s t) : Works s t :=
  keeps_of_run (P := Works s) (fun _ _ hturn hs => hs.trans hturn.works) h .refl

theorem Works.firm {s t : State} (h : Works s t) : Firm s t := firm_of_run (fun _ _ => Work.firm) h

theorem Deeds.turns {s t : State} (h : Deeds s t) : Turns s t :=
  Run.mono (fun _ _ => Turn.deed) h

theorem Acts.turns {s t : State} (h : Acts s t) : Turns s t := h.deeds.turns

theorem settleEye_turns (e : Eye) (s : State) : Turns s (settleEye e s) := by
  simp only [settleEye]
  split
  · exact .single (.filtered e 0 s (.inr rfl))
  · split
    · exact .single (.edge e s ‹_›)
    · exact .refl

theorem pulseEye_turns (s : State) (e : Eye) : Turns s (pulseEye s e) := by
  simp only [pulseEye]
  split
  · exact .refl
  · split
    · exact .single (.edge e s ‹_›)
    · exact .single (.filtered e _ s (.inl ‹_›))

theorem rawLevel_congr {s t : State} (hpins : t.pins = s.pins) (hparams : t.params = s.params)
    (e : Eye) : t.rawLevel e = s.rawLevel e := by
  simp only [State.rawLevel, hpins, hparams]

/-- An eye whose raw level equals its filtered level has pulse count 0, R46. -/
def Calm (s : State) (e : Eye) : Prop :=
  s.rawLevel e = (s.belt.eyes.get e).blocked → (s.belt.eyes.get e).count = 0

theorem Calm.congr {s t : State} {e : Eye} (hpins : t.pins = s.pins)
    (hparams : t.params = s.params) (heye : t.belt.eyes.get e = s.belt.eyes.get e) (h : Calm s e) :
    Calm t e := by
  rw [Calm, rawLevel_congr hpins hparams, heye]
  exact h

theorem makeEdge_eyes (e : Eye) (s : State) :
    (makeEdge e s).belt.eyes = s.belt.eyes.set e { blocked := s.rawLevel e, count := 0 } := by
  simp only [makeEdge, takeEdge_belt]
  rfl

/-- A turn keeps an eye calm. -/
theorem Turn.calm {s t : State} (h : Turn s t) {d : Eye} (hd : Calm s d) : Calm t d := by
  cases h
  case deed h => exact hd.congr h.firm.pins h.firm.params (by rw [h.belt])
  case edge e hne =>
    have hfirm := (makeEdge_works e s).firm
    rw [Calm, rawLevel_congr hfirm.pins hfirm.params, makeEdge_eyes, PerEye.get_set]
    split
    · exact fun _ => rfl
    · exact hd
  case filtered e k hk =>
    rw [Calm, rawLevel_congr (t := setFilter e _ s) rfl rfl]
    simp only [setFilter, onBelt_belt, PerEye.get_set]
    split
    · rename_i heq
      subst heq
      rcases hk with hne | rfl
      · exact fun heq => absurd heq hne
      · exact fun _ => rfl
    · exact hd

theorem Turns.calm {s t : State} (h : Turns s t) {d : Eye} (hd : Calm s d) : Calm t d :=
  keeps_of_run (P := fun u => Calm u d) (fun _ _ hturn => hturn.calm) h hd

/-- An eye that has been settled is calm. -/
theorem settleEye_calm (e : Eye) (s : State) : Calm (settleEye e s) e := by
  simp only [settleEye]
  split
  · rw [Calm, rawLevel_congr (t := setFilter e _ s) rfl rfl]
    simp only [setFilter, onBelt_belt, PerEye.get_set, reduceIte, implies_true]
  · split
    · rw [Calm, makeEdge_eyes, PerEye.get_set, if_pos rfl]
      exact fun _ => rfl
    · exact fun heq => absurd heq ‹_›

theorem foldl_settleEye_calm {l : List Eye} {s : State} {d : Eye} (h : d ∈ l ∨ Calm s d) :
    Calm (l.foldl (fun t e => settleEye e t) s) d := by
  induction l generalizing s with
  | nil => exact h.resolve_left List.not_mem_nil
  | cons e l ih =>
    refine ih ?_
    rcases h with hmem | hcalm
    · rcases List.mem_cons.mp hmem with rfl | hmem
      · exact .inr (settleEye_calm d s)
      · exact .inl hmem
    · exact .inr ((settleEye_turns e s).calm hcalm)

/-! ### The sweep -/

/-- The oldest capture is not past PAIR_MAX, R55. -/
def HeadFresh (s : State) : Prop :=
  ∀ c rest, s.capture.list = c :: rest → s.age c ≤ s.params.pairMax

theorem HeadFresh.of_steady {s t : State} (h : HeadFresh s) (hst : Steady s t) : HeadFresh t := by
  intro c rest heq
  rw [State.age, State.p, hst.belt, hst.params]
  exact h c rest (hst.capture ▸ heq)

theorem expireHead_of_fresh {s : State} (h : HeadFresh s) : expireHead s = s := by
  unfold expireHead
  split
  · rfl
  · exact if_neg (Nat.not_lt_of_le (h _ _ ‹_›))

theorem sweep_of_fresh (n : Nat) {s : State} (h : HeadFresh s) : sweep n s = s := by
  induction n with
  | zero => rfl
  | succ n ih => rw [sweep, expireHead_of_fresh h, ih]

theorem sweep_fresh {n : Nat} {s : State} (h : s.capture.list.length ≤ n) :
    HeadFresh (sweep n s) := by
  induction n generalizing s with
  | zero =>
    intro c rest heq
    have : s.capture.list = c :: rest := heq
    simp [this] at h
  | succ n ih =>
    by_cases hfresh : HeadFresh s
    · rwa [sweep_of_fresh _ hfresh]
    · refine ih ?_
      obtain ⟨c, rest, hlist, hdue⟩ : ∃ c rest, s.capture.list = c :: rest ∧
          s.params.pairMax < s.age c := by
        simpa only [HeadFresh, Classical.not_forall, Nat.not_le, exists_prop] using hfresh
      have hrest : (expireHead s).capture.list = rest := by
        simp only [expireHead, hlist, if_pos hdue]
        rw [(Acts.steady (handItem_acts _ _)).capture]
        rfl
      rw [hrest]
      rw [hlist, List.length_cons] at h
      omega

theorem sweepAll_fresh (s : State) : HeadFresh (sweepAll s) := sweep_fresh (Nat.le_refl _)

/-- The steps still due are taken, and the oldest capture is then not past PAIR_MAX. -/
theorem takeOutstanding_deeds (s : State) : Deeds s (takeOutstanding s) ∧
    HeadFresh (takeOutstanding s) := by
  have harms : ∀ {f : Arm → State → State}, (∀ a t, Acts t (f a t)) → ∀ t,
      Acts t (allArms.foldl (fun t a => f a t) t) := fun h t => run_foldl (fun t a => h a t) _ t
  have hacts : Acts (sweepAll s) (takeOutstanding s) := by
    simp only [takeOutstanding]
    refine .trans ?_ (harms (fun a t => withLights_acts (jamArm_acts a t)) _)
    refine .trans ?_ (run_foldl (fun t tag => exitEntry_acts tag t) _ _)
    refine .trans ?_ (run_foldl
      (fun t tag => withLights_acts (Act.missed tag t).acts) _ _)
    refine .trans ?_ (harms (fun a t => (Act.lapsed a t).acts) _)
    refine .trans ?_ (harms (fun a t => (Act.dwellEnded a t).acts) _)
    exact harms (fun a t => (Act.fired a t).acts) _
  exact ⟨(sweep_deeds _ s).trans hacts.deeds, (sweepAll_fresh s).of_steady hacts.steady⟩

end Sys2Proof.Machine
end

section
/-! PROOFS. What every command makes of a running part: a run of moves and of frames on the intake link. The
requests answer after such a run, and every event is one. -/

namespace Sys2Proof.Machine

/-! ### Moves -/

/-- The state in which a value has been stored, with what PRESCALE and EYE_FILTER do at once, R43, R48, R181. -/
def stored (q : Param) (v : Nat) (s : State) : State :=
  let t := { s with params := s.params.store v q }
  match q with
  | .prescale => t.onBelt fun b => { b with phase := 0 }
  | .eyeFilter => t.onBelt fun b => { b with eyes := b.eyes.map fun f => { f with count := 0 } }
  | _ => t

/-- The state after the LINE_STOP input has taken a level and the stop state follows it, R143. -/
def stopTaken (level : Bool) (s : State) : State :=
  (s.onPins fun p => { p with lineStop := level }).onPause fun c => { c with stopAsserted := level }

/-- The state after the PAUSE_REQ input has taken a level and the pause state follows, R147. -/
def requestTaken (level : Bool) (s : State) : State :=
  (s.onPins fun p => { p with pauseReq := level }).onPause fun c =>
    c.follow { c with requestAsserted := level }

/-- What a command of a running part makes of it, but for the frames of the intake link. -/
inductive Move : State → State → Prop
  | turn {s t : State} : Turn s t → Move s t
  | pulsed (s : State) : s.belt.phase + 1 ≠ s.params.prescale →
      Move s (s.onBelt fun b => { b with phase := b.phase + 1 })
  | counted (s : State) : HeadFresh s → Move s (makeCount s)
  | pinned (e : Eye) (high : Bool) {s t : State} :
      Turns (s.onPins fun p => { p with eyes := p.eyes.set e high }) t →
      ((∀ d, Calm s d) → ∀ d, Calm t d) → Move s t
  | stopped (s : State) :
      Move s (if s.divert.armsLive then clearArmsLive (stopTaken true s) else stopTaken true s)
  | released (s : State) : Move s (stopTaken false s)
  | requested (level : Bool) (s : State) : Move s (requestTaken level s)
  | written (q : Param) (v : Nat) {s t : State} : (q.isChoice = true → v ≤ 1) →
      (q.lockClass = .free ∨ s.divert.armsLive = false) →
      belowLoad s (q.clampIn s.params v) q = false →
      Turns (stored q (q.clampIn s.params v) s) t → (q = .pairMax → HeadFresh t) →
      ((∀ d, Calm s d) → ∀ d, Calm t d) → Move s t
  | locked (level : Nat) (s : State) : level ≤ 2 →
      Move s (s.onParams fun p => { p with lockLevel := level })
  | tabled (f : List Product → List Product) (s : State) :
      (CatalogueLaw s → CatalogueLaw (s.onCatalogue f)) → Move s (s.onCatalogue f)

/-- A run of moves. -/
abbrev Moves : State → State → Prop := Run Move

theorem Turns.moves {s t : State} (h : Turns s t) : Moves s t :=
  Run.mono (fun _ _ => Move.turn) h

theorem Deeds.moves {s t : State} (h : Deeds s t) : Moves s t := h.turns.moves

theorem Acts.moves {s t : State} (h : Acts s t) : Moves s t := h.deeds.moves

theorem Act.moves {s t : State} (h : Act s t) : Moves s t := h.acts.moves

/-- What no move touches. -/
theorem Move.frame {s t : State} (h : Move s t) : t.pending = s.pending ∧ t.inReset = s.inReset := by
  cases h
  case turn h => exact ⟨h.works.firm.pending, h.works.firm.inReset⟩
  case pinned h _ => exact ⟨h.works.firm.pending, h.works.firm.inReset⟩
  case stopped =>
    split
    · have h := (Act.disarmed (stopTaken true s)).steady
      exact ⟨h.pending, h.inReset⟩
    · exact ⟨rfl, rfl⟩
  case written q v h _ _ _ _ _ =>
    have hstored : ∀ u, (stored q u s).pending = s.pending ∧ (stored q u s).inReset = s.inReset :=
      fun u => by cases q <;> exact ⟨rfl, rfl⟩
    have hfirm := Works.firm (Turns.works ‹_›)
    exact ⟨hfirm.pending.trans (hstored _).left, hfirm.inReset.trans (hstored _).right⟩
  all_goals exact ⟨rfl, rfl⟩

/-! ### The Parameter Store -/

theorem foldl_settleEye_turns (l : List Eye) (s : State) :
    Turns s (l.foldl (fun t e => settleEye e t) s) :=
  run_foldl (fun t e => settleEye_turns e t) l s

theorem paramWritten_turns (q : Param) (v : Nat) (s : State) :
    Turns (stored q v s) (paramWritten q { s with params := s.params.store v q }) := by
  cases q
  case capturePolarity => exact settleEye_turns .cap _
  case lanePolarity => exact foldl_settleEye_turns _ _
  case eyeFilter => exact foldl_settleEye_turns _ _
  case pairMax => exact (sweep_deeds _ _).turns
  case laneClasses n => exact (Act.bound _).acts.turns
  all_goals exact .refl

/-- A write leaves every eye calm: an eye whose polarity or filter it sets is settled, R45, R46, R48. -/
theorem paramWritten_calm (q : Param) (v : Nat) {s : State} (h : ∀ d, Calm s d) (d : Eye) :
    Calm (paramWritten q { s with params := s.params.store v q }) d := by
  have hturns := paramWritten_turns q v s
  cases q
  case capturePolarity =>
    cases d with
    | cap => exact settleEye_calm .cap _
    | chute a => exact hturns.calm (h (.chute a))
  case lanePolarity =>
    cases d with
    | cap => exact hturns.calm (h .cap)
    | chute a => exact foldl_settleEye_calm (.inl (List.mem_map_of_mem (mem_allArms a)))
  case eyeFilter => exact foldl_settleEye_calm (.inl (mem_allEyes d))
  all_goals exact hturns.calm (h d)

theorem ownSetParam_moves (body : List Byte) (s : State) : Moves s (ownSetParam body s).state := by
  unfold ownSetParam
  split
  · exact .refl
  · split
    · exact .refl
    · rename_i q _
      unfold checkedWrite
      split
      · exact .refl
      rename_i hchoice
      split
      · exact .refl
      split
      · exact .refl
      rename_i hlive
      split
      · exact .refl
      rename_i hload
      refine .single (.written q (fieldAt body 2 4) ?_ ?_ (eq_false_of_ne_true hload)
        (paramWritten_turns q _ s) ?_ (paramWritten_calm q _))
      · exact fun hq => Nat.le_of_not_lt fun hlt => hchoice ⟨hq, hlt⟩
      · rcases Classical.em (q.lockClass = .free) with hfree | hfree
        · exact .inl hfree
        · exact .inr (eq_false_of_ne_true fun h => hlive ⟨hfree, h⟩)
      · rintro rfl
        exact sweepAll_fresh _

theorem ownSetLock_moves (body : List Byte) (s : State) : Moves s (ownSetLock body s).state := by
  simp only [ownSetLock]
  split
  · exact .refl
  split
  · exact .refl
  rename_i hlevel
  split
  · exact .refl
  · exact .single (.locked _ s (Nat.le_of_not_lt hlevel))

/-! ### The Order Book -/

theorem OrderBook.byNumber_mem {b : OrderBook} {k : Nat} {o : Order} (h : b.byNumber k = some o) :
    o ∈ b.orders := List.mem_of_find?_eq_some h

theorem OrderBook.freeSlot_spec {b : OrderBook} {slot : Nat} (h : b.freeSlot = some slot) :
    slot < 256 ∧ ∀ o ∈ b.orders, o.slot ≠ slot := by
  unfold OrderBook.freeSlot at h
  refine ⟨List.mem_range.mp (List.mem_of_find?_eq_some h), fun o ho => ?_⟩
  have hall := List.find?_some h
  simpa using List.all_eq_true.mp hall o ho

theorem OrderBook.mem_enter {b : OrderBook} {o x : Order} :
    x ∈ (b.enter o).orders ↔ x = o ∨ x ∈ b.orders := by
  have hsplit : x ∈ b.orders ↔ x ∈ b.orders.takeWhile (fun x => x.slot < o.slot) ∨
      x ∈ b.orders.dropWhile (fun x => x.slot < o.slot) := by
    rw [← List.mem_append, List.takeWhile_append_dropWhile]
  simp only [OrderBook.enter, List.mem_append, List.mem_cons, hsplit]
  exact or_left_comm

theorem loadedOrder_fresh {body : List Byte} {slot : Nat} {s : State}
    (hslot : s.book.freeSlot = some slot)
    (hnumber : ¬ (s.book.byNumber (fieldAt body 0 4)).isSome = true)
    (hpool : ¬ s.book.freeLines < fieldAt body 12 1) :
    (loadedOrder body slot (lineFields body (fieldAt body 12 1))).Fresh s := by
  obtain ⟨hlt, halone⟩ := OrderBook.freeSlot_spec hslot
  refine ⟨hlt, halone, fun x hx heq => hnumber ?_, ?_, rfl, rfl, ?_, ⟨rfl, rfl⟩, rfl⟩
  · exact List.find?_isSome.mpr ⟨x, hx, by simpa [loadedOrder] using heq⟩
  · simpa [loadedOrder, lineFields] using hpool
  · simp [loadedOrder, LineField.line]

theorem ownLoadOrder_moves (body : List Byte) (s : State) :
    Moves s (ownLoadOrder body s).state := by
  simp only [ownLoadOrder]
  split
  · exact .refl
  split
  · exact .refl
  split
  · exact .refl
  rename_i hnumber
  split
  · exact .refl
  rename_i slot hslot
  split
  · exact .refl
  rename_i hpool
  have hfresh := loadedOrder_fresh hslot hnumber hpool
  simp only [loadInto, Answer.done_state, enterOrder]
  have henter := (Act.entered _ s hfresh).acts
  split
  · exact Acts.moves ((henter.tail
      (.enqueued _ _ (OrderBook.mem_enter.mpr (.inl rfl)) rfl)).tail (.bound _))
  · exact henter.moves

theorem withOrder_moves {own : Order → State → Answer}
    (h : ∀ o s, o ∈ s.book.orders → Moves s (own o s).state) (body : List Byte) (s : State) :
    Moves s (withOrder own body s).state := by
  unfold withOrder
  split
  · exact .refl
  split
  · exact .refl
  split
  · exact .refl
  · exact h _ s (OrderBook.byNumber_mem ‹_›)

theorem cancelFound_moves (o : Order) (s : State) (ho : o ∈ s.book.orders) :
    Moves s (cancelFound o s).state := by
  have hempty : (o.state ≠ .opened ∧ o.state ≠ .shorting) →
      Moves s (count .ordersCancelled (s.onBook fun b => b.empty o)) := fun h =>
    Acts.moves ((Act.emptied o s ho h).acts.tail (.counted _ _))
  have hcancel : (o.state = .opened ∨ o.state = .shorting) →
      Moves s (count .ordersCancelled (withLights (cancelInFlight o) s)) := fun h =>
    Acts.moves ((withLights_acts (Act.cancelled o s ho h).acts).tail (.counted _ _))
  unfold cancelFound
  split
  · exact .refl
  · exact .refl
  · exact hempty (by simp [*])
  · exact hempty (by simp [*])
  · exact hcancel (by simp [*])
  · exact hcancel (by simp [*])

theorem shortCloseFound_moves (o : Order) (s : State) (ho : o ∈ s.book.orders) :
    Moves s (shortCloseFound o s).state := by
  simp only [shortCloseFound]
  split
  · rename_i hstate
    refine Acts.moves (withLights_acts ?_)
    unfold shortCloseOpen
    split
    · exact ((Act.closed o s ho hstate ‹_›).acts.tail (.told _ _)).tail (.counted _ _)
    · exact (Act.shorted o s ho hstate).acts
  · exact .refl

/-! ### The other owners -/

theorem emptyBody_moves {own : State → Answer} (h : ∀ s, Moves s (own s).state)
    (body : List Byte) (s : State) : Moves s (emptyBody own body s).state := by
  unfold emptyBody
  split
  · exact h s
  · exact .refl

theorem ownClearFlags_moves (body : List Byte) (s : State) :
    Moves s (ownClearFlags body s).state := by
  simp only [ownClearFlags]
  split
  · exact .refl
  · exact (Act.flagsCleared _ s).moves

theorem ownReadCounters_moves (body : List Byte) (s : State) :
    Moves s (ownReadCounters body s).state := by
  simp only [ownReadCounters]
  split
  · exact .refl
  split
  · exact .refl
  simp only [Answer.ok_state]
  split
  · exact (Act.countersCleared _ _ s).moves
  · exact .refl

theorem ownLoadProduct_moves (body : List Byte) (s : State) :
    Moves s (ownLoadProduct body s).state := by
  have hlaw : CatalogueLaw s → CatalogueLaw (ownLoadProduct body s).state :=
    fun h => ownLoadProduct_catalogueLaw body h
  simp only [ownLoadProduct] at hlaw ⊢
  split
  · exact .refl
  rename_i hlength
  rw [if_neg hlength] at hlaw
  split
  · exact .refl
  rename_i hbad
  rw [if_neg hbad] at hlaw
  split
  · exact .refl
  rename_i hroom
  rw [if_neg hroom] at hlaw
  exact .single (.tabled _ s hlaw)

theorem ownDeleteProduct_moves (body : List Byte) (s : State) :
    Moves s (ownDeleteProduct body s).state := by
  have hlaw : CatalogueLaw s → CatalogueLaw (ownDeleteProduct body s).state :=
    fun h => ownDeleteProduct_catalogueLaw body h
  simp only [ownDeleteProduct] at hlaw ⊢
  split
  · exact .refl
  rename_i hlength
  rw [if_neg hlength] at hlaw
  split
  · exact .refl
  rename_i hbad
  rw [if_neg hbad] at hlaw
  split
  · exact .refl
  rename_i hroom
  rw [if_neg hroom] at hlaw
  exact .single (.tabled _ s hlaw)

theorem ownStageRange_moves (body : List Byte) (s : State) :
    Moves s (ownStageRange body s).state := by
  simp only [ownStageRange]
  split
  · exact .refl
  split
  · exact .refl
  · rw [Answer.done_state]
    exact Act.moves (.waved _ s (Nat.le_refl _))

theorem ownStageClass_moves (body : List Byte) (s : State) :
    Moves s (ownStageClass body s).state := by
  simp only [ownStageClass]
  split
  · exact .refl
  split
  · exact .refl
  · rw [Answer.ok_state]
    exact Act.moves (.waved _ s (Nat.le_refl _))

theorem requestAdvance_moves (s : State) : Moves s (requestAdvance s).state := by
  simp only [requestAdvance]
  split
  · exact .refl
  split
  · rw [Answer.ok_state]
    exact Act.moves (.waved _ s (Nat.le_refl _))
  · exact (advance_acts 0 s).moves

theorem armLanes_moves (s : State) : Moves s (armLanes s).state := by
  unfold armLanes
  split
  · exact .refl
  split
  · exact .refl
  · exact (Act.armed s (eq_false_of_ne_true ‹_›) (Bool.of_not_eq_false ‹_›)).moves

theorem disarmLanes_moves (s : State) : Moves s (disarmLanes s).state := by
  unfold disarmLanes
  split
  · exact Acts.moves (withLights_acts (Act.disarmed s).acts)
  · exact .refl

theorem withLane_moves {own : Lane → State → State} (h : ∀ n s, Moves s (own n s))
    (body : List Byte) (s : State) : Moves s (withLane own body s).state := by
  simp only [withLane]
  split
  · exact .refl
  split
  · exact .refl
  · exact h _ s

theorem enableLane_moves (n : Lane) (s : State) : Moves s (enableLane n s) := by
  unfold enableLane
  split
  · exact .refl
  · rename_i h
    exact Acts.moves ((Act.laneSet n .enabled s (by rw [h]; rfl)).acts.tail (.bound _))
  · rename_i h
    exact (Act.laneSet n (.jammed .enabled) s (by rw [h]; rfl)).moves

theorem disableLane_moves (n : Lane) (s : State) : Moves s (disableLane n s) := by
  unfold disableLane
  split
  · rename_i h
    exact (Act.laneSet n .disabled s (by rw [h]; rfl)).moves
  · exact .refl
  · rename_i h
    exact (Act.laneSet n (.jammed .disabled) s (by rw [h]; rfl)).moves

theorem afterSource_moves (b : Bool) (s : State) :
    Moves s (afterSource s.pause.wanted 0 (s.onPause fun c => { c with controlPause := b })) :=
  Acts.moves ((Act.sourced b s).acts.trans
    (afterSource_acts s.pause 0 (s.onPause fun c => { c with controlPause := b })))

theorem lineClear_moves (s : State) : Moves s (lineClear s).state := by
  simp only [lineClear]
  split
  · exact Deeds.moves ((Deed.cleared s).deeds.trans
      (Acts.deeds ((relight_acts s _).trans (drainTest_acts _))))
  · exact .refl

theorem ownInjectCapture_moves (body : List Byte) (s : State) :
    Moves s (ownInjectCapture body s).state := by
  simp only [ownInjectCapture]
  split
  · exact .refl
  split
  · exact .refl
  split
  · exact .refl
  split
  · exact .refl
  split
  · exact .refl
  · exact (makeCapture_deeds _ (Nat.lt_of_not_le ‹_›)).moves

/-- An owner that answers what stands. -/
theorem moves_of_state_eq {s t : State} (h : t = s) : Moves s t := h ▸ .refl

theorem reading_owner_state (own : List Byte → State → Answer)
    (h : own = ownReadIdent ∨ own = ownReadStatus ∨ own = ownReadRefusal ∨ own = ownReadParam ∨
      own = ownReadOrder ∨ own = ownReadPosition ∨ own = ownReadProduct ∨ own = ownReadRange ∨
      own = ownReadClass) (body : List Byte) (s : State) : (own body s).state = s := by
  rcases h with rfl | rfl | rfl | rfl | rfl | rfl | rfl | rfl | rfl
  · simp only [ownReadIdent, emptyBody]; split <;> rfl
  · simp only [ownReadStatus, emptyBody]; split <;> rfl
  · simp only [ownReadRefusal, emptyBody]; split <;> rfl
  · simp only [ownReadParam]; (repeat' split) <;> rfl
  · simp only [ownReadOrder, withOrder]; (repeat' split) <;> rfl
  · simp only [ownReadPosition]; (repeat' split) <;> rfl
  · simp only [ownReadProduct, readFound]; (repeat' split) <;> rfl
  · simp only [ownReadRange]; (repeat' split) <;> rfl
  · simp only [ownReadClass]; (repeat' split) <;> rfl

/-- The owner of a request code is that of PART_RESET, or leaves the state of a run of moves. -/
theorem ownerOf_moves {code : Byte} {own : List Byte → State → Answer}
    (h : ownerOf code = some own) :
    own = ownPartReset ∨ ∀ body s, Moves s (own body s).state := by
  have hread := fun own h body s => moves_of_state_eq (reading_owner_state own h body s)
  unfold ownerOf at h
  split at h <;> cases h
  case h_1 => exact .inr (hread _ (by simp))
  case h_2 => exact .inr (hread _ (by simp))
  case h_3 => exact .inr ownClearFlags_moves
  case h_4 => exact .inr ownReadCounters_moves
  case h_5 => exact .inr (hread _ (by simp))
  case h_6 => exact .inr (emptyBody_moves fun s => by rw [Answer.ok_state]; exact Act.moves (.ranged _ s))
  case h_7 => exact .inr ownSetParam_moves
  case h_8 => exact .inr (hread _ (by simp))
  case h_9 => exact .inr ownSetLock_moves
  case h_10 => exact .inr ownLoadOrder_moves
  case h_11 => exact .inr (withOrder_moves cancelFound_moves)
  case h_12 => exact .inr (withOrder_moves shortCloseFound_moves)
  case h_13 => exact .inr (hread _ (by simp))
  case h_14 => exact .inr (hread _ (by simp))
  case h_15 => exact .inr ownLoadProduct_moves
  case h_16 => exact .inr ownDeleteProduct_moves
  case h_17 => exact .inr (hread _ (by simp))
  case h_18 => exact .inr ownStageRange_moves
  case h_19 => exact .inr ownStageClass_moves
  case h_20 => exact .inr (hread _ (by simp))
  case h_21 => exact .inr (hread _ (by simp))
  case h_22 => exact .inr (emptyBody_moves requestAdvance_moves)
  case h_23 => exact .inr (emptyBody_moves armLanes_moves)
  case h_24 => exact .inr (emptyBody_moves disarmLanes_moves)
  case h_25 => exact .inr (withLane_moves enableLane_moves)
  case h_26 => exact .inr (withLane_moves disableLane_moves)
  case h_27 => exact .inr (emptyBody_moves (afterSource_moves true))
  case h_28 => exact .inr (emptyBody_moves (afterSource_moves false))
  case h_29 => exact .inr (emptyBody_moves lineClear_moves)
  case h_30 => exact .inr ownInjectCapture_moves
  case h_31 => exact .inl rfl

/-! ### Events -/

theorem encoderPulse_moves (s : State) : Moves s (encoderPulse s) := by
  have hphase : Moves s (pulsePhase s) := by
    unfold pulsePhase
    split
    · obtain ⟨hdeeds, hfresh⟩ := takeOutstanding_deeds s
      exact hdeeds.moves.tail (.counted _ hfresh)
    · exact .single (.pulsed s ‹_›)
  exact hphase.trans (Turns.moves (run_foldl pulseEye_turns _ _))

theorem eyeInput_moves (e : Eye) (high : Bool) {s : State} (h : s.inReset = false) :
    Moves s (eyeInput e high s) := by
  simp only [eyeInput]
  split
  · refine .single (.pinned e high (settleEye_turns e _) fun hcalm d => ?_)
    by_cases hd : d = e
    · rw [hd]
      exact settleEye_calm e _
    · refine (settleEye_turns e _).calm ?_
      have hraw : (s.onPins fun p => { p with eyes := p.eyes.set e high }).rawLevel d =
          s.rawLevel d := by
        simp only [State.rawLevel, onPins_params, onPins_pins, PerEye.get_set, if_neg hd]
      rw [Calm, hraw]
      exact hcalm d
  · rename_i hsame
    have hlevel : s.pins.eyes.get e = high := by simpa [h] using hsame
    have heyes : s.pins.eyes.set e high = s.pins.eyes := PerEye.eq_of_get fun d => by
      rw [PerEye.get_set]
      split
      · rename_i hd
        rw [hd, hlevel]
      · rfl
    simp only [State.onPins, heyes]
    exact .refl

theorem stopAsserted_acts (s : State) :
    Acts (if s.divert.armsLive then clearArmsLive (s.onPause fun c => { c with stopAsserted := true })
      else s.onPause fun c => { c with stopAsserted := true }) (stopAsserted s) := by
  simp only [stopAsserted]
  split
  · rw [withLights]
    exact (relight_acts _ _).tail (.told _ _)
  · exact (Act.told _ _).acts

theorem lineStopInput_moves (level : Bool) {s : State} (h : s.inReset = false) :
    Moves s (lineStopInput level s) := by
  simp only [lineStopInput]
  split
  · cases level with
    | true =>
      have hstop : Moves s (if s.divert.armsLive then clearArmsLive (stopTaken true s)
          else stopTaken true s) := .single (.stopped s)
      exact Run.trans hstop (Acts.moves
        (stopAsserted_acts (s.onPins fun p => { p with lineStop := true })))
    | false =>
      have hrelease : Moves s (stopTaken false s) := .single (.released s)
      simp only [Bool.false_eq_true, reduceIte, stopReleased]
      split
      · exact hrelease.trans (Act.told _ _).moves
      · split
        · exact hrelease.trans (Acts.moves ((Act.armed (stopTaken false s) rfl ‹_›).acts.tail
            (.told _ _)))
        · exact hrelease.trans (Act.told _ _).moves
  · rename_i hsame
    have hlevel : s.pins.lineStop = level := by simpa [h] using hsame
    subst hlevel
    exact .refl

theorem pauseReqInput_moves (level : Bool) {s : State} (h : s.inReset = false) :
    Moves s (pauseReqInput level s) := by
  simp only [pauseReqInput]
  split
  · exact .trans (.single (.requested level s)) (Acts.moves (afterSource_acts s.pause 1
      ((s.onPins fun p => { p with pauseReq := level }).onPause fun c =>
        { c with requestAsserted := level })))
  · rename_i hsame
    have hlevel : s.pins.pauseReq = level := by simpa [h] using hsame
    subst hlevel
    exact .refl

end Sys2Proof.Machine
end

section
/-! PROOFS. A step, whole: the frames of the intake link, what a command makes of a running part, of a held part, and
what a reset leaves; and the way a law is shown to be kept by every step. -/

namespace Sys2Proof.Machine

/-! ### What reports and counts alone change -/

/-- A property of the link and the Status Unit that every report and count keeps. -/
structure Telling (P : State → Prop) : Prop where
  same : ∀ {s t : State}, P s → t.link = s.link → t.status = s.status →
    t.inReset = s.inReset → P t
  told : ∀ (r : Report) {s : State}, P s → P (report r s)
  counted : ∀ (c : Counter) {s : State}, P s → P (count c s)
  flags : ∀ (mask : BitVec 32) {s : State}, P s →
    P (s.onStatus fun u => { u with flags := clearFlags mask u.flags })
  counters : ∀ (first n : Nat) {s : State}, P s →
    P (s.onStatus fun u => { u with counters := clearRun first n u.counters })

namespace Telling
variable {P : State → Prop} (h : Telling P) {s t : State}
include h

omit h in
theorem foldl {α : Type} {f : State → α → State} (hf : ∀ t a, P t → P (f t a)) (l : List α)
    (hs : P s) : P (l.foldl f s) := by
  induction l generalizing s with
  | nil => exact hs
  | cons a l ih => exact ih (hf s a hs)

theorem enterComplete (o : Order) (short : Bool) (hs : P s) : P (enterComplete o short s) :=
  h.counted _ (h.told _ (h.same hs rfl rfl rfl))

theorem completeCheck (slot : Nat) (hs : P s) : P (completeCheck slot s) := by
  rcases completeCheck_cases slot s with heq | ⟨o, short, -, heq⟩ <;> rw [heq]
  · exact hs
  · exact h.enterComplete o short hs

theorem confirm (slot line w l : Nat) (hs : P s) : P (confirm slot line w l s) :=
  h.completeCheck slot (h.same hs rfl rfl rfl)

theorem release (slot line w l : Nat) (hs : P s) : P (release slot line w l s) :=
  h.completeCheck slot (h.same hs rfl rfl rfl)

theorem releaseEntry (e : Entry) (hs : P s) : P (releaseEntry e s) := by
  unfold Machine.releaseEntry
  split
  · exact h.release _ _ _ _ hs
  · exact hs

theorem releaseChute (e : ChuteEntry) (hs : P s) : P (releaseChute e s) := by
  unfold Machine.releaseChute
  split
  · exact h.release _ _ _ _ hs
  · exact hs

theorem giveUp (p : Entry → Bool) (reason : OutboundReason) (hs : P s) : P (giveUp p reason s) :=
  foldl (fun _ e => h.releaseEntry e) _ (h.same hs rfl rfl rfl)

theorem missEntry (tag : Tag) (hs : P s) : P (missEntry tag s) := by
  rcases missEntry_cases tag s with heq | ⟨e, -, heq⟩ <;> rw [heq]
  · exact hs
  · exact h.releaseEntry e (h.counted _ (h.told _ (h.same hs rfl rfl rfl)))

theorem act (hact : Act s t) (hs : P s) : P t := by
  cases hact
  case told r => exact h.told r hs
  case counted c => exact h.counted c hs
  case marked => exact h.same hs (by simp) (by simp) (by simp)
  case lightSent =>
    unfold Machine.lightSent
    split
    · exact hs
    · exact h.same hs (by simp) (by simp) (by simp)
  case flagsCleared mask => exact h.flags mask hs
  case countersCleared first n => exact h.counters first n hs
  case promoted => exact h.same hs (by simp) (by simp) (by simp)
  case jammed a _ => cases a <;> exact h.same hs rfl rfl rfl
  case gaveUp p reason _ => exact h.giveUp p reason hs
  case fired a =>
    rcases fireArm_cases a s with heq | ⟨-, heq⟩ <;> rw [heq]
    · exact hs
    · exact h.counted _ (h.same hs rfl rfl rfl)
  case dwellEnded a =>
    rcases endDwell_cases a s with heq | heq <;> rw [heq]
    · exact hs
    · exact h.same hs rfl rfl rfl
  case lapsed a =>
    rcases lapseLastFire_cases a s with heq | heq <;> rw [heq]
    · exact hs
    · exact h.same hs rfl rfl rfl
  case missed tag => exact h.missEntry tag hs
  case confirmed a _ _ => cases a <;> exact h.same hs rfl rfl rfl
  case put => exact h.confirm _ _ _ _ (h.same hs rfl rfl rfl)
  case cancelled =>
    exact foldl (fun _ e => h.releaseChute e) _
      (foldl (fun _ e => h.releaseEntry e) _ (h.same hs rfl rfl rfl))
  case disarmed => exact h.giveUp _ _ (h.same hs rfl rfl rfl)
  all_goals exact h.same hs rfl rfl rfl

theorem deed (hdeed : Deed s t) (hs : P s) : P t := by
  cases hdeed
  case act hact => exact h.act hact hs
  case cleared =>
    exact foldl (fun _ e => h.releaseChute e) _
      (foldl (fun _ e => h.releaseEntry e) _ (h.same hs rfl rfl rfl))
  all_goals exact h.same hs rfl rfl rfl

theorem works (hworks : Works s t) (hs : P s) : P t := by
  refine keeps_of_run (fun _ _ hwork hu => ?_) hworks hs
  cases hwork
  case deed hdeed => exact h.deed hdeed hu
  case touched => exact h.same hu rfl rfl rfl

theorem move (hmove : Move s t) (hs : P s) : P t := by
  cases hmove
  case turn hturn => exact h.works hturn.works hs
  case pinned hturns _ => exact h.works hturns.works (h.same hs rfl rfl rfl)
  case stopped =>
    split
    · exact h.giveUp _ _ (h.same hs rfl rfl rfl)
    · exact h.same hs rfl rfl rfl
  case written q v _ _ _ _ _ _ =>
    refine h.works (Turns.works ‹_›) ?_
    cases q <;> exact h.same hs rfl rfl rfl
  all_goals exact h.same hs rfl rfl rfl

theorem moves (hmoves : Moves s t) (hs : P s) : P t :=
  keeps_of_run (P := P) (fun u v (hmove : Move u v) hu => h.move hmove hu) hmoves hs

end Telling

/-! ### The intake link -/

/-- A move, or what the intake link does with a frame, R159, R166, R168, R171. -/
inductive Wire : State → State → Prop
  | move {s t : State} : Move s t → Wire s t
  | listening (rx : IntakeRx) (s : State) : Wire s (setRx rx s)
  | sent (s : State) : Wire s (frameSent s)
  | answered (f : Frame) (s : State) : s.link.txQueue.length < 32 → s.link.resetWait = .idle →
      Wire s (queueFrame f s)
  | resetAccepted (f : Frame) (s : State) : s.link.txQueue.length < 32 →
      s.link.resetWait = .idle →
      Wire s (queueFrame f (s.onLink fun l => { l with resetWait := .waiting }))

/-- A run of moves and frames. -/
abbrev Wires : State → State → Prop := Run Wire

theorem Moves.wires {s t : State} (h : Moves s t) : Wires s t :=
  Run.mono (fun _ _ => Wire.move) h

theorem Acts.wires {s t : State} (h : Acts s t) : Wires s t := Moves.wires h.moves

theorem Wire.frame {s t : State} (h : Wire s t) : t.pending = s.pending ∧ t.inReset = s.inReset := by
  cases h
  case move h => exact h.frame
  case sent =>
    unfold frameSent
    split <;> exact ⟨rfl, rfl⟩
  all_goals exact ⟨rfl, rfl⟩

theorem Wires.frame {s t : State} (h : Wires s t) : t.pending = s.pending ∧ t.inReset = s.inReset :=
  keeps_of_run (P := fun u => u.pending = s.pending ∧ u.inReset = s.inReset)
    (fun _ _ hwire hu => ⟨hwire.frame.left.trans hu.left, hwire.frame.right.trans hu.right⟩) h
    ⟨rfl, rfl⟩

theorem linkAfterReport_cases (r : Report) (s : State) :
    (linkAfterReport r s).resetWait = s.link.resetWait ∧
      ((linkAfterReport r s).txQueue = s.link.txQueue ∧
          (linkAfterReport r s).sending = s.link.sending ∨
        (s.link.txQueue.length ≤ 23 ∧ s.link.resetWait = .idle ∧
          (linkAfterReport r s).txQueue = s.link.txQueue ++ [eventFrame r s] ∧
          (linkAfterReport r s).sending = true)) := by
  unfold linkAfterReport
  split
  · split
    · rename_i h
      exact ⟨rfl, .inr ⟨h.left, h.right, rfl, rfl⟩⟩
    · exact ⟨rfl, .inl ⟨rfl, rfl⟩⟩
  · exact ⟨rfl, .inl ⟨rfl, rfl⟩⟩

/-- The transmit queue has room for a response, and no PART_RESET response waits. -/
structure Room (s : State) : Prop where
  queue : s.link.txQueue.length < 32
  wait : s.link.resetWait = .idle

/-- An event frame never takes the last place of the transmit queue, R168. -/
theorem room_telling : Telling Room where
  same h hlink _ _ := ⟨hlink ▸ h.queue, hlink ▸ h.wait⟩
  told r s h := by
    rw [report_eq_update]
    obtain ⟨hwait, ⟨hqueue, -⟩ | ⟨hlength, -, hqueue, -⟩⟩ := linkAfterReport_cases r s
    · exact ⟨hqueue ▸ h.queue, hwait.trans h.wait⟩
    · refine ⟨?_, hwait.trans h.wait⟩
      simp only [hqueue, List.length_append, List.length_singleton]
      omega
  counted _ _ h := ⟨h.queue, h.wait⟩
  flags _ _ h := ⟨h.queue, h.wait⟩
  counters _ _ _ h := ⟨h.queue, h.wait⟩

theorem respond_wires {code : Byte} {q : Request} {a : Answer} {s : State}
    (h : Moves s a.state) (hroom : Room s) : Wires s (respond code q a) := by
  have hroom' := room_telling.moves h hroom
  exact (Moves.wires h).tail (.answered _ _ hroom'.queue hroom'.wait)

theorem takeRequest_wires {code : Byte} {own : List Byte → State → Answer} (q : Request)
    {s : State} (hown : own = ownPartReset ∨ ∀ body s, Moves s (own body s).state)
    (hears : Hears s) : Wires s (takeRequest code own q s) := by
  unfold takeRequest
  split
  · exact Acts.wires ((Act.told _ s).acts.tail (.counted _ _))
  · rename_i hfull
    have hroom : Room s := ⟨Nat.lt_of_not_le hfull, hears.right⟩
    split
    · exact respond_wires .refl hroom
    · rcases hown with rfl | hown
      · unfold ownPartReset emptyBody
        split
        · exact .single (.resetAccepted _ s hroom.queue hroom.wait)
        · exact respond_wires .refl hroom
      · exact respond_wires (hown _ s) hroom

theorem hears_of_not_deaf {s : State} (h : ¬ (s.inReset ∨ s.link.resetWait ≠ .idle)) : Hears s := by
  rw [not_or, Classical.not_not] at h
  exact ⟨eq_false_of_ne_true h.left, h.right⟩

theorem unlessDeaf_wires {f : State → State} {s : State} (h : Hears s → Wires s (f s)) :
    Wires s (unlessDeaf f s) := by
  unfold unlessDeaf
  split
  · exact .refl
  · exact h (hears_of_not_deaf ‹_›)

theorem sortFrame_wires (kind source tag : Byte) (payload : List Byte) {s : State}
    (h : Hears s) : Wires s (sortFrame kind source tag payload s) := by
  have herror : ∀ d, Wires s (linkError d s) := fun d => Acts.wires (linkError_acts d s)
  have hforeign : Wires s (count .foreignFrames s) := Acts.wires (Act.counted _ s).acts
  unfold sortFrame
  split
  · unfold scanFrame
    split
    · exact hforeign
    · split
      · exact herror _
      · exact Moves.wires (scanArrival_deeds _ s).moves
  split
  · unfold requestFrame
    split
    · exact takeRequest_wires _ (.inr fun _ _ => .refl) h
    · rename_i code body
      refine takeRequest_wires _ ?_ h
      rcases howner : ownerOf code with _ | own
      · exact .inr fun _ _ => .refl
      · exact ownerOf_moves howner
  split
  · exact hforeign
  · exact herror _

theorem judgeFrame_wires (covered check : List Byte) {s : State} (h : Hears s) :
    Wires s (judgeFrame covered check s) := by
  unfold judgeFrame
  split
  · exact Acts.wires (linkError_acts _ s)
  split
  · exact .refl
  · exact sortFrame_wires _ _ _ _ h

theorem takeByte_wires (b : Byte) {s : State} (h : Hears s) : Wires s (takeByte b s) := by
  have hrx : ∀ rx, Wires s (setRx rx s) := fun rx => .single (.listening rx s)
  unfold takeByte
  split
  · split
    · exact hrx _
    · exact .refl
  · split
    · exact hrx _
    · simp only [headerComplete]
      split
      · exact (hrx _).trans (Acts.wires (linkError_acts _ _))
      · split
        · exact hrx _
        · exact hrx _
  · split
    · exact hrx _
    · exact hrx _
  · exact hrx _
  · exact (hrx .hunting).trans (judgeFrame_wires _ _ h)

theorem intakeBytes_wires (bytes : List Byte) (s : State) : Wires s (intakeBytes bytes s) :=
  run_foldl (fun _ b => unlessDeaf_wires (takeByte_wires b)) bytes s

/-! ### Commands -/

theorem not_hears_of_held {s : State} (h : s.inReset = true) : ¬ Hears s := fun hears =>
  Bool.false_ne_true (hears.left.symm.trans h)

/-- A request is not taken from a part held in reset. -/
theorem serve_of_held {s : State} (h : s.inReset = true) (code : Byte)
    (own : List Byte → State → Answer) (q : Request) : serve code own q s = .next s :=
  serve_of_not_hears (not_hears_of_held h) code own q

theorem intakeBytes_of_held {s : State} (h : s.inReset = true) (bytes : List Byte) :
    intakeBytes bytes s = s := by
  unfold intakeBytes
  induction bytes with
  | nil => rfl
  | cons b bytes ih =>
    rw [List.foldl_cons, unlessDeaf_of_not_hears (not_hears_of_held h), ih]

theorem eyeInput_of_held (e : Eye) (high : Bool) {s : State} (h : s.inReset = true) :
    eyeInput e high s = s.onPins fun p => { p with eyes := p.eyes.set e high } := by
  simp [eyeInput, h]

theorem lineStopInput_of_held (level : Bool) {s : State} (h : s.inReset = true) :
    lineStopInput level s = s.onPins fun p => { p with lineStop := level } := by
  simp [lineStopInput, h]

theorem pauseReqInput_of_held (level : Bool) {s : State} (h : s.inReset = true) :
    pauseReqInput level s = s.onPins fun p => { p with pauseReq := level } := by
  simp [pauseReqInput, h]

/-- R184: a held part takes no event but that the inputs follow their commands. -/
theorem exec_of_held {i : Instr} {s : State} (h : s.inReset = true) (hreset : i.isReset = false)
    (hend : ∀ straps, i ≠ .resetEnd straps) :
    exec i s = .next { s with pins := inputsAfter i s.pins } := by
  rcases hi : i.request? with _ | ⟨code, q⟩
  · cases i <;> cases hi
    case intakeFrameReceived.refl bytes => exact congrArg Host.Outcome.next (intakeBytes_of_held h bytes)
    case eyeInputChange.refl e high =>
      exact congrArg Host.Outcome.next (eyeInput_of_held e high h)
    case lineStopAssert.refl => exact congrArg Host.Outcome.next (lineStopInput_of_held true h)
    case lineStopRelease.refl => exact congrArg Host.Outcome.next (lineStopInput_of_held false h)
    case pauseReqAssert.refl => exact congrArg Host.Outcome.next (pauseReqInput_of_held true h)
    case pauseReqRelease.refl => exact congrArg Host.Outcome.next (pauseReqInput_of_held false h)
    case resetEnd.refl straps => exact absurd rfl (hend straps)
    case powerOn.refl => cases hreset
    case resetPin.refl => cases hreset
    case partResetTaken.refl => cases hreset
    all_goals exact congrArg Host.Outcome.next (unlessInReset_of_held h _)
  · obtain ⟨own, -, heq⟩ := exec_request hi s
    rw [heq, serve_of_held h]
    cases i <;> cases hi <;> rfl

/-- A command but a reset takes a running part along a run of moves and frames. -/
theorem exec_of_running {i : Instr} {s t : State} (h : s.inReset = false)
    (hreset : i.isReset = false) (hexec : exec i s = .next t) : Wires s t := by
  rcases hi : i.request? with _ | ⟨code, q⟩
  · cases i <;> cases hi <;> cases hreset <;> cases hexec
    case intakeFrameReceived.refl.refl.refl bytes => exact intakeBytes_wires bytes s
    case intakeFrameSent.refl.refl.refl => rw [unlessInReset_of_running h]; exact .single (.sent s)
    case laneFrameReceived.refl.refl.refl bytes =>
      rw [unlessInReset_of_running h]
      exact Acts.wires (laneBytes_acts bytes s)
    case lightFrameSent.refl.refl.refl =>
      rw [unlessInReset_of_running h]
      exact Acts.wires (Act.lightSent s).acts
    case encoderPulse.refl.refl.refl =>
      rw [unlessInReset_of_running h]
      exact Moves.wires (encoderPulse_moves s)
    case eyeInputChange.refl.refl.refl e high => exact Moves.wires (eyeInput_moves e high h)
    case captureExpiry.refl.refl.refl =>
      rw [unlessInReset_of_running h]
      exact Moves.wires (expireHead_deeds s).moves
    case fire.refl.refl.refl a => rw [unlessInReset_of_running h]; exact Acts.wires (Act.fired a s).acts
    case dwellEnd.refl.refl.refl a => rw [unlessInReset_of_running h]; exact Acts.wires (Act.dwellEnded a s).acts
    case lastFireLapse.refl.refl.refl a => rw [unlessInReset_of_running h]; exact Acts.wires (Act.lapsed a s).acts
    case missedDivert.refl.refl.refl tag =>
      rw [unlessInReset_of_running h]
      exact Acts.wires (withLights_acts (Act.missed tag s).acts)
    case exit.refl.refl.refl tag => rw [unlessInReset_of_running h]; exact Acts.wires (exitEntry_acts tag s)
    case laneJam.refl.refl.refl a =>
      rw [unlessInReset_of_running h]
      exact Acts.wires (withLights_acts (jamArm_acts a s))
    case lineStopAssert.refl.refl.refl => exact Moves.wires (lineStopInput_moves true h)
    case lineStopRelease.refl.refl.refl => exact Moves.wires (lineStopInput_moves false h)
    case pauseReqAssert.refl.refl.refl => exact Moves.wires (pauseReqInput_moves true h)
    case pauseReqRelease.refl.refl.refl => exact Moves.wires (pauseReqInput_moves false h)
    case resetEnd.refl.refl.refl straps =>
      simp only [h, Bool.false_eq_true, reduceIte]
      exact .refl
  · obtain ⟨own, howner, heq⟩ := exec_request hi s
    cases heq.symm.trans hexec
    exact unlessDeaf_wires fun hears => takeRequest_wires q (ownerOf_moves howner) hears

/-- What a command can do to a part. -/
theorem exec_cases {i : Instr} {s t : State} (hexec : exec i s = .next t) :
    (s.inReset = false ∧ Wires s t) ∨ (s.inReset = true ∧ ∃ pins, t = { s with pins := pins }) ∨
      (i.isReset = true ∧ ∃ k, t = takeReset k s) ∨
      s.inReset = true ∧ ∃ straps, t = endReset straps s := by
  have hheld := Bool.eq_false_or_eq_true s.inReset
  rcases Bool.eq_false_or_eq_true i.isReset with hreset | hreset
  · cases i <;> cases hreset <;> cases hexec
    case partResetTaken.refl.refl =>
      split
      · exact .inr (.inr (.inl ⟨rfl, _, rfl⟩))
      · rcases hheld with h | h
        · exact .inr (.inl ⟨h, s.pins, rfl⟩)
        · exact .inl ⟨h, .refl⟩
    case powerOn.refl.refl => exact .inr (.inr (.inl ⟨rfl, _, rfl⟩))
    case resetPin.refl.refl => exact .inr (.inr (.inl ⟨rfl, _, rfl⟩))
  · rcases hheld with h | h
    · by_cases hend : ∃ straps, i = .resetEnd straps
      · obtain ⟨straps, rfl⟩ := hend
        cases hexec
        rw [if_pos h]
        exact .inr (.inr (.inr ⟨h, straps, rfl⟩))
      · have heq := exec_of_held h hreset fun straps hi => hend ⟨straps, hi⟩
        cases heq.symm.trans hexec
        exact .inr (.inl ⟨h, _, rfl⟩)
    · exact .inl ⟨h, exec_of_running h hreset hexec⟩

/-! ### Steps -/

/-- A law that what a step is made of keeps. -/
structure Lawful (P : State → Prop) : Prop where
  pending : ∀ {s : State} (l : List Instr), P s → P { s with pending := l }
  wire : ∀ {s t : State}, s.inReset = false → Wire s t → P s → P t
  held : ∀ {s : State} (pins : Pins), s.inReset = true → P s → P { s with pins := pins }
  reset : ∀ {s : State} (k : ResetKind), P s → P (takeReset k s)
  ended : ∀ {s : State} (straps : BitVec 4), s.inReset = true → P s → P (endReset straps s)

theorem Lawful.wires {P : State → Prop} (h : Lawful P) {s t : State} (hr : s.inReset = false)
    (hwires : Wires s t) (hs : P s) : P t := by
  refine (keeps_of_run (P := fun u => u.inReset = false ∧ P u) ?_ hwires ⟨hr, hs⟩).right
  rintro u v hwire ⟨hu, hP⟩
  exact ⟨hwire.frame.right.trans hu, h.wire hu hwire hP⟩

/-- Every step keeps such a law. -/
theorem Lawful.step {P : State → Prop} (h : Lawful P) {s t : State} (hstep : step s = .next t)
    (hs : P s) : P t := by
  unfold Machine.step at hstep
  split at hstep
  · cases hstep
    exact hs
  · rename_i c rest _
    have hrest : P { s with pending := rest } := h.pending rest hs
    rcases exec_cases hstep with ⟨hr, hwires⟩ | ⟨hr, pins, rfl⟩ | ⟨-, k, rfl⟩ | ⟨hr, straps, rfl⟩
    · exact h.wires hr hwires hrest
    · exact h.held pins hr hrest
    · exact h.reset k hrest
    · exact h.ended straps hr hrest

end Sys2Proof.Machine
end

section
/-! PROOFS. What every command does to the queue of commands, to a held part and to the wave counter; and the reset
commands. -/

namespace Sys2Proof.Machine

/-! ### The queue of commands -/

/-- Settles O1: a step is `exec` of the front command on the state with the queue's rest. -/
theorem stepTakesFrontCommand : Obligations.StepTakesFrontCommand := by
  refine ⟨fun _ _ _ => rfl, fun s h => ?_⟩
  simp only [step, h]

/-- No command stops with a fault or a refusal. -/
theorem exec_completes (c : Instr) (s : State) : ∃ t, exec c s = .next t := by
  rcases hc : c.request? with _ | ⟨code, q⟩
  · cases c <;> exact ⟨_, rfl⟩
  · obtain ⟨own, -, heq⟩ := exec_request hc s
    exact ⟨_, heq⟩

/-- No command touches the queue of commands. -/
theorem exec_pending {c : Instr} {s t : State} (h : exec c s = .next t) :
    t.pending = s.pending := by
  rcases exec_cases h with ⟨-, hwires⟩ | ⟨-, pins, rfl⟩ | ⟨-, k, rfl⟩ | ⟨-, straps, rfl⟩
  · exact hwires.frame.left
  · rfl
  · rfl
  · simp [endReset]

/-- Settles O2, from what each kind of command makes of the part (`exec_cases`). -/
theorem everyCommandCompletes : Obligations.EveryCommandCompletes := by
  intro c s
  obtain ⟨t, ht⟩ := exec_completes c s
  exact ⟨t, ht, exec_pending ht⟩

/-! ### Resets -/

/-- Settles O5, by the event gates of a held part. -/
theorem heldPartTakesNoEvent : Obligations.HeldPartTakesNoEvent :=
  fun _ _ hheld hreset hend => exec_of_held hheld hreset hend

theorem takeReset_eq_heldState (k : ResetKind) (s : State) :
    takeReset k s = heldState (resetFlags k s.status.flags) s := rfl

/-- Settles O3: each reset kind leaves the held state with its own flag word. -/
theorem resetKindsGiveResetState : Obligations.ResetKindsGiveResetState := by
  refine fun s => ⟨rfl, rfl, fun h => ?_, fun h => ?_⟩
  · exact congrArg Host.Outcome.next (if_pos h)
  · exact congrArg Host.Outcome.next (if_neg h)

theorem nextMarked_reset : PutWall.reset.nextMarked = some 0 := by decide

/-- An idle transmitter with a mark set begins the frame of the next marked position, R123. -/
theorem beginLight_of_next {s : State} {i : Nat} (htx : s.wall.tx = none)
    (hnext : s.wall.nextMarked = some i) :
    beginLight s = s.onWall fun w =>
      { w with
        marks := w.marks.filter fun k => k != i
        pointer := i
        tx := some { lane := laneOfIndex i, position := positionOfIndex i, value := lightAt s i } } := by
  simp only [beginLight, htx, hnext]

theorem beginLight_of_busy {s : State} (htx : s.wall.tx ≠ none) : beginLight s = s := by
  unfold beginLight
  split
  · exact absurd ‹_› htx
  · rfl

theorem beginLight_of_no_mark {s : State} (hnext : s.wall.nextMarked = none) :
    beginLight s = s := by
  simp only [beginLight, hnext]
  rcases s.wall.tx with _ | _ <;> rfl

/-- The first LIGHT frame after a reset is that of lane 1 position 0, R129. -/
theorem beginLight_of_reset {s : State} (h : s.wall = PutWall.reset) :
    beginLight s =
      { s with
        wall :=
          { s.wall with
            marks := (List.range 128).tail, pointer := 0
            tx := some { lane := .l1, position := 0, value := .off } } } := by
  have hmarks : (PutWall.reset.marks.filter fun k => k != 0) = (List.range 128).tail := by decide
  have hnext : s.wall.nextMarked = some 0 := h ▸ nextMarked_reset
  have hlight : lightAt s 0 = .off := by
    simp only [lightAt, light, State.headTarget, h]
    rfl
  rw [beginLight_of_next (by rw [h]; rfl) hnext]
  simp only [State.onWall, h, hlight, hmarks]
  rfl

/-- Settles O4: RESET_END reads the straps and the inputs and begins the first LIGHT frame. -/
theorem resetEndStartsPart : Obligations.ResetEndStartsPart := by
  refine ⟨fun straps s hheld hwall => ?_, fun straps s hrun => ?_, fun s hpins => ?_⟩
  · refine congrArg Host.Outcome.next ((if_pos hheld).trans ?_)
    exact (beginLight_of_reset (by exact hwall)).trans rfl
  · exact congrArg Host.Outcome.next (if_neg (Bool.eq_false_iff.mp hrun))
  · refine ⟨takeReset .powerOn s, rfl, congrArg Host.Outcome.next ((if_pos rfl).trans ?_)⟩
    refine (beginLight_of_reset rfl).trans ?_
    simp only [takeReset, State.onLink, State.onPause, hpins]
    rfl

/-! ### The wave counter -/

theorem BookOnly.wave_eq {s t : State} (h : BookOnly s t) : t.wave = s.wave := by
  obtain ⟨b, l, u, rfl⟩ := h
  rfl

theorem Act.wave_le {s t : State} (h : Act s t) : s.wave.counter ≤ t.wave.counter := by
  cases h
  case waved f h => exact h
  case told | counted | marked | bound | promoted => simp
  case lightSent =>
    unfold Machine.lightSent
    split <;> simp
  case jammed a _ => cases a <;> exact Nat.le_refl _
  case gaveUp p reason _ => rw [(giveUp_bookOnly p reason s).wave_eq]; exact Nat.le_refl _
  case fired a =>
    rcases fireArm_cases a s with h | ⟨-, h⟩
    · exact Nat.le_of_eq (by rw [h])
    · exact Nat.le_of_eq (by rw [h]; rfl)
  case dwellEnded a =>
    rcases endDwell_cases a s with h | h
    · exact Nat.le_of_eq (by rw [h])
    · exact Nat.le_of_eq (by rw [h]; rfl)
  case lapsed a =>
    rcases lapseLastFire_cases a s with h | h
    · exact Nat.le_of_eq (by rw [h])
    · exact Nat.le_of_eq (by rw [h]; rfl)
  case missed tag => 
    rcases missEntry_bookOnly tag s with h | h
    · exact Nat.le_of_eq (by rw [h])
    · exact Nat.le_of_eq (by rw [h.wave_eq]; rfl)
  case confirmed a _ _ => cases a <;> exact Nat.le_refl _
  case put => rw [(confirm_bookOnly _ _ _ _ _).wave_eq]; exact Nat.le_refl _
  case cancelled o _ _ => rw [(cancelInFlight_bookOnly o s).wave_eq]; exact Nat.le_refl _
  case disarmed => rw [(clearArmsLive_bookOnly s).wave_eq]; exact Nat.le_refl _
  all_goals exact Nat.le_refl _

theorem Deed.wave_le {s t : State} (h : Deed s t) : s.wave.counter ≤ t.wave.counter := by
  cases h
  case act h => exact h.wave_le
  case cleared => rw [(clearLists_bookOnly s).wave_eq]; exact Nat.le_refl _
  all_goals exact Nat.le_refl _

theorem Works.wave_le {s t : State} (h : Works s t) : s.wave.counter ≤ t.wave.counter := by
  refine keeps_of_run (P := fun u => s.wave.counter ≤ u.wave.counter) (fun _ _ hwork hu => ?_) h
    (Nat.le_refl _)
  cases hwork
  case deed h => exact Nat.le_trans hu h.wave_le
  case touched => exact hu

theorem Move.wave_le {s t : State} (h : Move s t) : s.wave.counter ≤ t.wave.counter := by
  cases h
  case turn h => exact h.works.wave_le
  case pinned h _ => exact Works.wave_le (s := s.onPins _) h.works
  case stopped =>
    split
    · exact Act.wave_le (s := stopTaken true s) (.disarmed _)
    · exact Nat.le_refl _
  case written q v _ _ _ _ _ _ =>
    have hstored : ∀ u, (stored q u s).wave = s.wave := fun u => by cases q <;> rfl
    have hle := Works.wave_le (Turns.works ‹_›)
    rwa [hstored] at hle
  all_goals exact Nat.le_refl _

theorem Wires.wave_le {s t : State} (h : Wires s t) : s.wave.counter ≤ t.wave.counter := by
  refine keeps_of_run (P := fun u => s.wave.counter ≤ u.wave.counter) (fun _ _ hwire hu => ?_) h
    (Nat.le_refl _)
  cases hwire
  case move h => exact Nat.le_trans hu h.wave_le
  case sent =>
    unfold frameSent
    split <;> exact hu
  all_goals exact hu

/-- R130: no command but a reset lowers the wave counter. -/
theorem exec_wave {c : Instr} {s t : State} (h : exec c s = .next t) :
    s.wave.counter ≤ t.wave.counter ∨ (c.isReset = true ∧ t.wave.counter = 0) := by
  rcases exec_cases h with ⟨-, hwires⟩ | ⟨-, pins, rfl⟩ | ⟨hreset, k, rfl⟩ | ⟨-, straps, rfl⟩
  · exact .inl hwires.wave_le
  · exact .inl (Nat.le_refl _)
  · exact .inr ⟨hreset, rfl⟩
  · exact .inl (Nat.le_of_eq (by simp [endReset]))

/-- Settles O23, over what each kind of command makes of the part. -/
theorem waveCounterNeverFalls : Obligations.WaveCounterNeverFalls := by
  refine ⟨fun c s t h => exec_wave h, fun detail s h => ?_⟩
  have hcounter : (advance detail s).wave.counter = bump16 s.wave.counter := by
    simp [advance, activate]
  rw [hcounter, bump16, Config.countMax16]
  split <;> omega

end Sys2Proof.Machine
end

section
/-! PROOFS. The laws of the transmit queue, of the flags and counters and of the lane link are kept by every step. -/

namespace Sys2Proof.Machine

/-! ### The transmit queue -/

theorem LinkLaw.of_eq {s t : State} (h : LinkLaw s) (hlink : t.link = s.link)
    (hreset : t.inReset = s.inReset) : LinkLaw t := by
  refine ⟨?_, ?_, ?_, ?_, ?_⟩ <;> rw [hlink]
  · exact h.size
  · exact h.sends
  · exact h.waits
  · exact h.sent
  · exact hreset ▸ h.held

/-- A frame that finds room in the queue of a running part joins it. -/
theorem linkLaw_queueFrame {s : State} (f : Frame) (hr : s.inReset = false)
    (hroom : s.link.txQueue.length < 32) (hwait : s.link.resetWait ≠ .sent) :
    LinkLaw (queueFrame f s) where
  size := by
    simp only [Machine.queueFrame, onLink_link, List.length_append, List.length_singleton]
    exact hroom
  sends := by simp [Machine.queueFrame]
  waits := by simp [Machine.queueFrame]
  sent hsent := absurd hsent hwait
  held hheld := absurd (hr.symm.trans hheld) Bool.false_ne_true

theorem linkLaw_telling : Telling fun s => s.inReset = false ∧ LinkLaw s where
  same h hlink _ hreset := ⟨hreset.trans h.left, h.right.of_eq hlink hreset⟩
  told r s h := by
    obtain ⟨hr, h⟩ := h
    refine ⟨(report_inReset r s).trans hr, ?_⟩
    obtain ⟨hwait, ⟨hqueue, hsending⟩ | ⟨hlength, hidle, hqueue, hsending⟩⟩ :=
      linkAfterReport_cases r s
    all_goals
      rw [report_eq_update]
      refine ⟨?_, ?_, ?_, ?_, fun hheld => absurd (hr.symm.trans hheld) Bool.false_ne_true⟩
      all_goals simp only [hwait, hqueue, hsending]
    · exact h.size
    · exact h.sends
    · exact h.waits
    · exact h.sent
    · simp only [List.length_append, List.length_singleton]
      omega
    · simp
    · simp
    · simp [hidle]
  counted _ _ h := ⟨h.left, h.right.of_eq rfl rfl⟩
  flags _ _ h := ⟨h.left, h.right.of_eq rfl rfl⟩
  counters _ _ _ h := ⟨h.left, h.right.of_eq rfl rfl⟩

theorem LinkLaw.frameSent {s : State} (h : LinkLaw s) (hr : s.inReset = false) :
    LinkLaw (frameSent s) := by
  unfold Machine.frameSent
  split
  · rename_i hsending
    have hdrop : (!(s.link.txQueue.drop 1).isEmpty) = true ↔ s.link.txQueue.drop 1 ≠ [] := by simp
    refine ⟨?_, ?_, ?_, ?_, fun hheld => absurd (hr.symm.trans hheld) Bool.false_ne_true⟩
    · exact Nat.le_trans (List.drop_sublist 1 _).length_le h.size
    · exact hdrop
    · simp only [onLink_link]
      split
      · exact fun hw => by cases hw
      · rename_i hnot
        exact fun hw hempty => hnot ⟨hw, by rw [hempty]; rfl⟩
    · simp only [onLink_link]
      split
      · rename_i hsent
        exact fun _ => List.isEmpty_iff.mp hsent.right
      · intro hw
        rw [h.sent hw]
        rfl
  · exact h

theorem linkLaw_lawful : Lawful LinkLaw where
  pending _ h := h.of_eq rfl rfl
  wire hr hwire h := by
    cases hwire
    case move hmove => exact (linkLaw_telling.move hmove ⟨hr, h⟩).right
    case listening => exact ⟨h.size, h.sends, h.waits, h.sent, h.held⟩
    case sent => exact h.frameSent hr
    case answered f hroom hidle =>
      exact linkLaw_queueFrame f hr hroom (by rw [hidle]; exact nofun)
    case resetAccepted f hroom hidle =>
      refine ⟨?_, ?_, ?_, ?_, fun hheld => absurd (hr.symm.trans hheld) Bool.false_ne_true⟩
      · simp only [queueFrame, onLink_link, List.length_append, List.length_singleton]
        exact hroom
      · simp [queueFrame]
      · simp [queueFrame]
      · exact nofun
  held _ _ h := h.of_eq rfl rfl
  reset k h := ⟨Nat.zero_le _, by simp [takeReset, IntakeLink.reset], nofun, nofun, fun _ => ⟨rfl, rfl⟩⟩
  ended {s} straps hr h := by
    have hlink : (endReset straps s).link = { s.link with node := nodeOfStraps straps } := by
      simp [endReset]
    have hreset : (endReset straps s).inReset = false := by simp [endReset]
    refine ⟨?_, ?_, ?_, ?_, fun hheld => absurd (hreset.symm.trans hheld) Bool.false_ne_true⟩
    all_goals rw [hlink]
    · exact h.size
    · exact h.sends
    · exact h.waits
    · exact h.sent

/-! ### The flags and counters -/

theorem or_and_eq_zero {x y m : BitVec 32} (hx : x &&& m = 0) (hy : y &&& m = 0) :
    (x ||| y) &&& m = 0 := by
  refine BitVec.eq_of_getElem_eq fun i hi => ?_
  have hxi : (x &&& m)[i] = (0 : BitVec 32)[i] := by rw [hx]
  have hyi : (y &&& m)[i] = (0 : BitVec 32)[i] := by rw [hy]
  rw [BitVec.getElem_and] at hxi hyi ⊢
  rw [BitVec.getElem_or, Bool.and_or_distrib_right, hxi, hyi, Bool.or_self]

theorem setFlag_reserved (k : EventKind) {flags : BitVec 32} (h : flags &&& 0xF8C00000 = 0) :
    setFlag k flags &&& 0xF8C00000 = 0 := 
  or_and_eq_zero h (by cases k <;> decide)

theorem clearFlags_reserved (mask : BitVec 32) {flags : BitVec 32}
    (h : flags &&& 0xF8C00000 = 0) : clearFlags mask flags &&& 0xF8C00000 = 0 := by
  rw [clearFlags, BitVec.and_assoc, BitVec.and_comm (~~~ _), ← BitVec.and_assoc, h]
  simp

theorem resetFlags_reserved (k : ResetKind) (flags : BitVec 32) :
    resetFlags k flags &&& 0xF8C00000 = 0 := by
  have hcause : causeBits flags &&& 0xF8C00000 = 0 := by
    rw [causeBits, BitVec.and_assoc]
    simp
  cases k with
  | powerOn => exact (by decide : flagBit 24 &&& 0xF8C00000 = 0)
  | resetPin => exact or_and_eq_zero hcause (by decide)
  | partReset => exact or_and_eq_zero hcause (by decide)

theorem bump_le {v : Nat} (h : v ≤ 4294967295) : bump v ≤ 4294967295 := by
  rw [bump, Config.counterMax]
  split <;> omega

theorem StatusLaw.countIn {s : State} (h : StatusLaw s) (c : Counter) :
    (countIn c s.status.counters).length = 22 ∧
      ∀ v ∈ countIn c s.status.counters, v ≤ 4294967295 := by
  refine ⟨(List.length_modify ..).trans h.number, fun v hv => ?_⟩
  obtain ⟨i, hi, rfl⟩ := List.mem_iff_getElem.mp hv
  simp only [Machine.countIn, List.getElem_modify]
  split
  · exact bump_le (h.most _ (List.getElem_mem _))
  · exact h.most _ (List.getElem_mem _)

theorem clearRun_length (first n : Nat) (l : List Nat) : (clearRun first n l).length = l.length := by
  simp only [clearRun, List.length_append, List.length_take, List.length_replicate, List.length_drop]
  omega

theorem mem_clearRun {first n v : Nat} {l : List Nat} (h : v ∈ clearRun first n l) : v = 0 ∨ v ∈ l := by
  simp only [clearRun, List.mem_append] at h
  rcases h with (h | h) | h
  · exact .inr (List.mem_of_mem_take h)
  · exact .inl (List.mem_replicate.mp h).right
  · exact .inr (List.mem_of_mem_drop h)

theorem statusLaw_telling : Telling StatusLaw where
  same h _ hstatus _ := ⟨hstatus ▸ h.flags, hstatus ▸ h.number, hstatus ▸ h.most⟩
  told r s h := by
    rw [report_eq_update]
    exact ⟨setFlag_reserved r.kind h.flags, h.number, h.most⟩
  counted c _ h := ⟨h.flags, (h.countIn c).left, (h.countIn c).right⟩
  flags mask _ h := ⟨clearFlags_reserved mask h.flags, h.number, h.most⟩
  counters first n _ h :=
    ⟨h.flags, (clearRun_length first n _).trans h.number, fun v hv =>
      (mem_clearRun hv).elim (fun h0 => h0 ▸ Nat.zero_le _) (h.most v)⟩

theorem statusLaw_lawful : Lawful StatusLaw where
  pending _ h := ⟨h.flags, h.number, h.most⟩
  wire _ hwire h := by
    cases hwire
    case move hmove => exact statusLaw_telling.move hmove h
    case sent =>
      unfold frameSent
      split
      · exact ⟨h.flags, h.number, h.most⟩
      · exact h
    all_goals exact ⟨h.flags, h.number, h.most⟩
  held _ _ h := ⟨h.flags, h.number, h.most⟩
  reset k h := by
    refine ⟨resetFlags_reserved k _, rfl, fun v hv => ?_⟩
    rw [(List.mem_replicate.mp hv).right]
    exact Nat.zero_le _
  ended {s} straps _ h := by
    have hstatus : (endReset straps s).status = s.status := by simp [endReset]
    exact ⟨hstatus ▸ h.flags, hstatus ▸ h.number, hstatus ▸ h.most⟩

/-! ### The lane link -/

theorem WallLaw.of_eq {s t : State} (h : WallLaw s) (hmarks : t.wall.marks = s.wall.marks)
    (htx : t.wall.tx = s.wall.tx) (hreset : t.inReset = s.inReset) : WallLaw t :=
  ⟨hmarks ▸ h.marks, fun hr hnone => hmarks.trans (h.sends (hreset ▸ hr) (htx ▸ hnone))⟩

/-- The cyclic order after a pointer meets every panel position, R123. -/
theorem mem_cyclicFrom (pointer : Nat) {i : Nat} (h : i < 128) : i ∈ cyclicFrom pointer := by
  refine List.mem_map.mpr ⟨(i + 128 * (pointer + 1) - (pointer + 1)) % 128, ?_, ?_⟩
  · exact List.mem_range.mpr (Nat.mod_lt _ (by decide))
  · simp only [Config.panelPositions]
    omega

theorem marks_of_nextMarked_none {w : PutWall} (hmarks : ∀ i ∈ w.marks, i < 128)
    (h : w.nextMarked = none) : w.marks = [] := by
  refine List.eq_nil_iff_forall_not_mem.mpr fun i hi => ?_
  have := List.find?_eq_none.mp h i (mem_cyclicFrom w.pointer (hmarks i hi))
  simp [hi] at this

/-- Where the marks are of panel positions, the law holds once the transmitter may begin a send. -/
theorem wallLaw_beginLight {s : State} (hmarks : ∀ i ∈ s.wall.marks, i < 128) :
    WallLaw (beginLight s) := by
  by_cases htx : s.wall.tx = none
  · rcases hnext : s.wall.nextMarked with _ | i
    · rw [beginLight_of_no_mark hnext]
      exact ⟨hmarks, fun _ _ => marks_of_nextMarked_none hmarks hnext⟩
    · rw [beginLight_of_next htx hnext]
      exact ⟨fun k hk => hmarks k ((List.mem_filter.mp hk).1), nofun⟩
  · rw [beginLight_of_busy htx]
    exact ⟨hmarks, fun _ hnone => absurd hnone htx⟩

theorem mark_lt (w : PutWall) (changed : List Nat) : ∀ i ∈ (w.mark changed).marks, i < 128 :=
  fun _ hi => List.mem_range.mp (List.mem_filter.mp hi).left

theorem BookOnly.wallLaw {s t : State} (h : BookOnly s t) (hs : WallLaw s) : WallLaw t := by
  obtain ⟨b, l, u, rfl⟩ := h
  exact hs.of_eq rfl rfl rfl

theorem WallLaw.act {s t : State} (hact : Act s t) (h : WallLaw s) : WallLaw t := by
  cases hact
  case marked l => exact wallLaw_beginLight (mark_lt _ _)
  case lightSent =>
    unfold Machine.lightSent
    split
    · exact h
    · exact wallLaw_beginLight h.marks
  case told | counted | bound | promoted => exact h.of_eq (by simp) (by simp) (by simp)
  case jammed a _ => cases a <;> exact h.of_eq rfl rfl rfl
  case gaveUp p reason _ => exact (giveUp_bookOnly p reason s).wallLaw (h.of_eq rfl rfl rfl)
  case fired a =>
    rcases fireArm_cases a s with heq | ⟨-, heq⟩ <;> rw [heq]
    · exact h
    · exact h.of_eq rfl rfl rfl
  case dwellEnded a =>
    rcases endDwell_cases a s with heq | heq <;> rw [heq]
    · exact h
    · exact h.of_eq rfl rfl rfl
  case lapsed a =>
    rcases lapseLastFire_cases a s with heq | heq <;> rw [heq]
    · exact h
    · exact h.of_eq rfl rfl rfl
  case missed tag =>
    rcases missEntry_bookOnly tag s with heq | hbook
    · rw [heq]
      exact h
    · exact hbook.wallLaw (h.of_eq rfl rfl rfl)
  case confirmed a _ _ => cases a <;> exact h.of_eq rfl rfl rfl
  case put => exact (confirm_bookOnly ..).wallLaw (h.of_eq rfl rfl rfl)
  case cancelled o _ _ => exact (cancelInFlight_bookOnly o s).wallLaw (h.of_eq rfl rfl rfl)
  case disarmed => exact (clearArmsLive_bookOnly s).wallLaw (h.of_eq rfl rfl rfl)
  all_goals exact h.of_eq rfl rfl rfl

theorem WallLaw.works {s t : State} (hworks : Works s t) (h : WallLaw s) : WallLaw t := by
  refine keeps_of_run (fun _ _ hwork hu => ?_) hworks h
  cases hwork
  case touched => exact hu.of_eq rfl rfl rfl
  case deed hdeed =>
    cases hdeed
    case act hact => exact hu.act hact
    case cleared => exact (clearLists_bookOnly _).wallLaw (hu.of_eq rfl rfl rfl)
    all_goals exact hu.of_eq rfl rfl rfl

theorem WallLaw.move {s t : State} (hmove : Move s t) (h : WallLaw s) : WallLaw t := by
  cases hmove
  case turn hturn => exact h.works hturn.works
  case pinned hturns _ => exact (h.of_eq (t := s.onPins _) rfl rfl rfl).works hturns.works
  case stopped =>
    have hstop : WallLaw (stopTaken true s) := h.of_eq rfl rfl rfl
    split
    · exact hstop.act (.disarmed _)
    · exact hstop
  case written q v _ _ _ _ _ _ =>
    have hstored : WallLaw (stored q (q.clampIn s.params v) s) := by
      cases q <;> exact h.of_eq rfl rfl rfl
    exact hstored.works (Turns.works ‹_›)
  all_goals exact h.of_eq rfl rfl rfl

theorem wallLaw_lawful : Lawful WallLaw where
  pending _ h := h.of_eq rfl rfl rfl
  wire _ hwire h := by
    cases hwire
    case move hmove => exact h.move hmove
    case sent =>
      unfold frameSent
      split
      · exact h.of_eq rfl rfl rfl
      · exact h
    all_goals exact h.of_eq rfl rfl rfl
  held _ _ h := h.of_eq rfl rfl rfl
  reset k h := ⟨fun i hi => List.mem_range.mp hi, nofun⟩
  ended straps _ h := wallLaw_beginLight h.marks

/-- Settles O54: each of the three laws is kept by all that a step is made of. -/
theorem linkStatusAndWallLawsAreKept : Obligations.LinkStatusAndWallLawsAreKept :=
  fun _ _ hstep =>
    ⟨linkLaw_lawful.step hstep, statusLaw_lawful.step hstep, wallLaw_lawful.step hstep⟩

end Sys2Proof.Machine
end

section
/-! PROOFS. The ranges of the parameters, and the law of the eyes and their block starts, are kept by every step. -/

namespace Sys2Proof.Machine

/-! ### The parameters -/

theorem ParamsLaw.of_eq {s t : State} (h : ParamsLaw s) (hparams : t.params = s.params)
    (hphase : t.belt.phase = s.belt.phase) : ParamsLaw t := by
  obtain ⟨pending, inReset, pins, link, ⟨phase, p, eyes⟩, capture, catalogue, ranges, book, recirc,
    divert, wall, wave, pause, status, params⟩ := t
  cases hparams
  cases hphase
  exact ⟨h.prescale, h.phase, h.laneDist, h.rejectDist, h.exitDist, h.chuteCap, h.eyeFilter,
    h.lead, h.armDwell, h.armGap, h.confirmWindow, h.pairMin, h.pairMax, h.maxLen, h.jamLen,
    h.nodes, h.maxPasses, h.distDiv, h.autoWave, h.lockLevel⟩

/-- A clamped number lies in its range, and is the nearest one there, R181. -/
theorem clamp_eq {lo hi : Nat} (h : lo ≤ hi) (v : Nat) : clamp lo hi v = max lo (min hi v) := by
  unfold clamp
  split
  · omega
  · split <;> omega

theorem clamp_bounds {lo hi : Nat} (h : lo ≤ hi) (v : Nat) :
    lo ≤ clamp lo hi v ∧ clamp lo hi v ≤ hi := by
  rw [clamp_eq h]
  omega

theorem PerLane.set_bounds {v : PerLane Nat} {lo hi x : Nat} (n : Lane)
    (h : ∀ m, lo ≤ v.get m ∧ v.get m ≤ hi) (hx : lo ≤ x ∧ x ≤ hi) (m : Lane) :
    lo ≤ (v.set n x).get m ∧ (v.set n x).get m ≤ hi := by
  rw [PerLane.get_set]
  split
  · exact hx
  · exact h m

/-- A write stores a value in its range, and carries the dependants of ARM_DWELL and PAIR_MIN, R181. -/
theorem ParamsLaw.stored {s : State} (h : ParamsLaw s) (q : Param) (v : Nat) :
    ParamsLaw (stored q (q.clampIn s.params v) s) := by
  have hbyte : ∀ {k : Nat}, 1 ≤ k → k ≤ 254 →
      1 ≤ (BitVec.ofNat 8 k).toNat ∧ (BitVec.ofNat 8 k).toNat ≤ 254 := by
    intro k h1 h2
    rw [BitVec.toNat_ofNat, Nat.mod_eq_of_lt (by omega)]
    exact ⟨h1, h2⟩
  cases q
  case prescale =>
    have hb := clamp_bounds (show 1 ≤ 16 by decide) v
    exact { h with prescale := hb, phase := hb.left }
  case laneDist n =>
    exact { h with laneDist := PerLane.set_bounds n h.laneDist (clamp_bounds (by decide) v) }
  case rejectDist => exact { h with rejectDist := clamp_bounds (by decide) v }
  case exitDist => exact { h with exitDist := clamp_bounds (by decide) v }
  case chuteCap n =>
    exact { h with chuteCap := PerLane.set_bounds n h.chuteCap (clamp_bounds (by decide) v) }
  case eyeFilter => exact { h with eyeFilter := (clamp_bounds (Nat.zero_le 15) v).right }
  case lead => exact { h with lead := (clamp_bounds (Nat.zero_le 255) v).right }
  case armDwell =>
    have hb := clamp_bounds (show 1 ≤ 255 by decide) v
    exact { h with
      armDwell := ⟨hb.left, hb.right, Nat.le_max_right _ _⟩
      armGap := Nat.max_le.mpr ⟨h.armGap, Nat.le_trans hb.right (by decide)⟩ }
  case armGap =>
    have hb := clamp_bounds (Nat.le_trans h.armDwell.right.left (show 255 ≤ 1023 by decide)) v
    exact { h with
      armDwell := ⟨h.armDwell.left, h.armDwell.right.left, hb.left⟩, armGap := hb.right }
  case confirmWindow => exact { h with confirmWindow := clamp_bounds (by decide) v }
  case pairMin =>
    have hb := clamp_bounds (Nat.zero_le 4095) v
    exact { h with
      pairMin := hb.right
      pairMax := ⟨Nat.le_max_right _ _, Nat.max_le.mpr
        ⟨h.pairMax.right, Nat.le_trans (Nat.succ_le_succ hb.right) (by decide)⟩⟩
      maxLen := Nat.min_le_right _ _ }
  case pairMax =>
    have hmin := h.pairMin
    have hb := clamp_bounds (show s.params.pairMin + 1 ≤ 8191 by omega) v
    exact { h with pairMax := ⟨hb.left, hb.right⟩ }
  case maxLen =>
    refine { h with maxLen := ?_ }
    change (if s.params.pairMin = 0 then 0 else clamp 1 s.params.pairMin v) ≤ s.params.pairMin
    split
    · exact Nat.zero_le _
    · exact (clamp_bounds (Nat.one_le_iff_ne_zero.mpr ‹_›) v).right
  case jamLen => exact { h with jamLen := clamp_bounds (by decide) v }
  case controlNode =>
    obtain ⟨h1, h2⟩ := clamp_bounds (show 0x01 ≤ 0xFE by decide) v
    exact { h with nodes := ⟨(hbyte h1 h2).left, (hbyte h1 h2).right, h.nodes.right.right⟩ }
  case tunnelNode =>
    obtain ⟨h1, h2⟩ := clamp_bounds (show 0x01 ≤ 0xFE by decide) v
    exact { h with nodes := ⟨h.nodes.left, h.nodes.right.left, hbyte h1 h2⟩ }
  case maxPasses => exact { h with maxPasses := clamp_bounds (by decide) v }
  case distDiv => exact { h with distDiv := clamp_bounds (by decide) v }
  case autoWave => exact { h with autoWave := (clamp_bounds (Nat.zero_le 255) v).right }
  all_goals exact { h with }

theorem paramsLaw_reset : ParamsLaw State.reset where
  prescale := by decide
  phase := by decide
  laneDist n := by cases n <;> decide
  rejectDist := by decide
  exitDist := by decide
  chuteCap n := by cases n <;> decide
  eyeFilter := by decide
  lead := by decide
  armDwell := by decide
  armGap := by decide
  confirmWindow := by decide
  pairMin := by decide
  pairMax := by decide
  maxLen := by decide
  jamLen := by decide
  nodes := by decide
  maxPasses := by decide
  distDiv := by decide
  autoWave := by decide
  lockLevel := by decide

theorem paramsLaw_lawful : Lawful ParamsLaw where
  pending _ h := h.of_eq rfl rfl
  wire {s t} _ hwire h := by
    cases hwire
    case move hmove =>
      cases hmove
      case turn hturn => exact h.of_eq hturn.works.firm.params hturn.works.firm.phase
      case pulsed hphase => 
        have hlt : s.belt.phase + 1 < s.params.prescale := Nat.lt_of_le_of_ne h.phase hphase
        exact { h with phase := hlt }
      case counted => 
        have hpos : 0 < s.params.prescale := h.prescale.left
        exact { h with phase := hpos }
      case pinned hturns _ => exact h.of_eq hturns.works.firm.params hturns.works.firm.phase
      case stopped =>
        split
        · have hfirm := (Act.disarmed (stopTaken true s)).steady.firm
          exact h.of_eq hfirm.params hfirm.phase
        · exact h.of_eq rfl rfl
      case written q v _ _ _ _ _ _ =>
        have hfirm := Works.firm (Turns.works ‹_›)
        exact (h.stored q v).of_eq hfirm.params hfirm.phase
      case locked level hlevel => exact { h with lockLevel := hlevel }
      all_goals exact h.of_eq rfl rfl
    case sent =>
      unfold frameSent
      split <;> exact h.of_eq rfl rfl
    all_goals exact h.of_eq rfl rfl
  held _ _ h := h.of_eq rfl rfl
  reset k _ := paramsLaw_reset.of_eq rfl rfl
  ended straps _ h := h.of_eq (by simp [endReset]) (by simp [endReset])

/-! ### The eyes -/

/-- The block starts stand where `v` says, and only there may an arm be JAMMED. -/
structure EyesFor (v : Arm → Bool) (s : State) : Prop where
  start : ∀ a, (s.divert.eyes.get a).blockStart.isSome = v a
  jammed : ∀ a, s.jammed a = true → v a = true

theorem jammed_lane (s : State) (n : Lane) :
    s.jammed (.lane n) = (s.divert.laneStates.get n).isJammed := by
  rcases h : s.divert.laneStates.get n with _ | _ | _ <;>
    simp only [State.jammed, LaneState.isJammed, h]

theorem jammed_congr {s t : State} (hlanes : t.divert.laneStates = s.divert.laneStates)
    (hreject : t.divert.rejectJammed = s.divert.rejectJammed) (a : Arm) :
    t.jammed a = s.jammed a := by
  cases a with
  | lane n => rw [jammed_lane, jammed_lane, hlanes]
  | reject => exact hreject

theorem EyesFor.of_eq {v : Arm → Bool} {s t : State} (h : EyesFor v s)
    (heyes : t.divert.eyes = s.divert.eyes) (hlanes : t.divert.laneStates = s.divert.laneStates)
    (hreject : t.divert.rejectJammed = s.divert.rejectJammed) : EyesFor v t :=
  ⟨fun a => heyes ▸ h.start a, fun a ha => h.jammed a (jammed_congr hlanes hreject a ▸ ha)⟩

theorem EyesFor.of_divert {v : Arm → Bool} {s t : State} (h : EyesFor v s)
    (hdivert : t.divert = s.divert) : EyesFor v t :=
  h.of_eq (by rw [hdivert]) (by rw [hdivert]) (by rw [hdivert])

theorem EyesFor.bookOnly {v : Arm → Bool} {s t : State} (h : EyesFor v s) (hst : BookOnly s t) :
    EyesFor v t := by
  obtain ⟨b, l, u, rfl⟩ := hst
  exact h.of_divert rfl

theorem EyesFor.setLane {v : Arm → Bool} {s : State} (h : EyesFor v s) {n : Lane} {st : LaneState}
    (hst : st.isJammed = true → v (.lane n) = true) : EyesFor v (setLane n st s) := by
  refine ⟨h.start, fun a ha => ?_⟩
  cases a with
  | lane m =>
    rw [jammed_lane] at ha
    simp only [Machine.setLane, onDivert_divert, PerLane.get_set] at ha
    split at ha
    · rename_i heq
      exact heq ▸ hst ha
    · exact h.jammed (.lane m) ((jammed_lane s m).trans ha)
  | reject => exact h.jammed .reject ha

/-- A change of a chute eye's record that leaves its block start. -/
theorem EyesFor.setChuteEye {v : Arm → Bool} {s : State} (h : EyesFor v s) {a : Arm} {r : ChuteEye}
    (hr : r.blockStart.isSome = v a) : EyesFor v (setChuteEye a r s) := by
  refine ⟨fun b => ?_, fun b hb => h.jammed b (jammed_congr rfl rfl b ▸ hb)⟩
  simp only [Machine.setChuteEye, onDivert_divert, PerArm.get_set]
  split
  · rename_i heq
    exact heq ▸ hr
  · exact h.start b

theorem EyesFor.becomeJammed {v : Arm → Bool} {s : State} (h : EyesFor v s) {a : Arm}
    (ha : (s.divert.eyes.get a).blockStart.isSome = true) : EyesFor v (becomeJammed a s) := by
  have hv : v a = true := (h.start a).symm.trans ha
  have hmark := h.setChuteEye (a := a) (r := { s.divert.eyes.get a with jamDue := false })
    (h.start a)
  cases a with
  | lane n => exact hmark.setLane fun _ => hv
  | reject =>
    refine ⟨hmark.start, fun b hb => ?_⟩
    cases b with
    | lane m => exact h.jammed (.lane m) ((jammed_lane s m).trans ((jammed_lane _ m).symm.trans hb))
    | reject => exact hv

theorem EyesFor.act {v : Arm → Bool} {s t : State} (h : EyesFor v s) (hact : Act s t) :
    EyesFor v t := by
  cases hact
  case laneSet n st hst =>
    exact h.setLane fun hj => h.jammed (.lane n) ((jammed_lane s n).trans (hst ▸ hj))
  case jammed a ha => exact h.becomeJammed ha
  case told | counted | marked | bound | promoted => exact h.of_divert (by simp)
  case lightSent =>
    unfold Machine.lightSent
    split
    · exact h
    · exact h.of_divert (by simp)
  case gaveUp p reason _ => 
    exact (h.of_eq (t := outbound p reason s) rfl rfl rfl).bookOnly (giveUp_bookOnly p reason s)
  case fired a =>
    rcases fireArm_cases a s with heq | ⟨-, heq⟩ <;> rw [heq]
    · exact h
    · exact h.of_eq rfl rfl rfl
  case dwellEnded a =>
    rcases endDwell_cases a s with heq | heq <;> rw [heq]
    · exact h
    · exact h.of_eq rfl rfl rfl
  case lapsed a =>
    rcases lapseLastFire_cases a s with heq | heq <;> rw [heq]
    · exact h
    · exact h.of_eq rfl rfl rfl
  case missed tag =>
    rcases missEntry_bookOnly tag s with heq | hbook
    · rw [heq]
      exact h
    · exact (h.of_eq (t := missedState tag s) rfl rfl rfl).bookOnly hbook
  case confirmed a _ _ => cases a <;> exact h.of_eq rfl rfl rfl
  case put n _ rest _ _ _ _ _ =>
    exact (h.of_eq (t := setChute n rest s) rfl rfl rfl).bookOnly (confirm_bookOnly ..)
  case cancelled o _ _ =>
    exact (h.of_eq (t := cancelledState o s) rfl rfl rfl).bookOnly (cancelInFlight_bookOnly o s)
  case disarmed =>
    exact (h.of_eq (t := outbound Entry.isScheduled .armsOff (arrestedState s)) rfl rfl rfl).bookOnly
      (clearArmsLive_bookOnly s)
  all_goals exact h.of_eq rfl rfl rfl

theorem EyesFor.acts {v : Arm → Bool} {s t : State} (h : EyesFor v s) (hacts : Acts s t) :
    EyesFor v t := keeps_of_run (P := EyesFor v) (fun _ _ hact hu => hu.act hact) hacts h

theorem EyesFor.deed {v : Arm → Bool} {s t : State} (h : EyesFor v s) (hdeed : Deed s t) :
    EyesFor v t := by
  cases hdeed
  case act hact => exact h.act hact
  case cleared =>
    exact (h.of_eq (t := emptiedState s) rfl rfl rfl).bookOnly (clearLists_bookOnly s)
  all_goals exact h.of_divert rfl

theorem EyesFor.deeds {v : Arm → Bool} {s t : State} (h : EyesFor v s) (hdeeds : Deeds s t) :
    EyesFor v t := keeps_of_run (P := EyesFor v) (fun _ _ hdeed hu => hu.deed hdeed) hdeeds h

/-- The levels `v` with the level of `a` replaced by `x`. -/
def levelSet (v : Arm → Bool) (a : Arm) (x : Bool) : Arm → Bool := fun b => if b = a then x else v b

theorem levelSet_apply (v : Arm → Bool) (a b : Arm) (x : Bool) :
    levelSet v a x b = if b = a then x else v b := rfl

theorem levelSet_of_ne {v : Arm → Bool} {a b : Arm} {x : Bool} (h : b ≠ a) :
    levelSet v a x b = v b := if_neg h

/-- A blocking edge stamps the block start of its eye, R94 and R95. -/
theorem EyesFor.chuteBlocked {v : Arm → Bool} {s : State} (h : EyesFor v s) (a : Arm) :
    EyesFor (levelSet v a true) (withLights (chuteBlocked a) s) := by
  refine EyesFor.acts (s := Machine.setChuteEye a { blockStart := some s.p, jamDue := false } s) ?_
    ((chuteBlocked_acts a s).trans (relight_acts _ _))
  refine ⟨fun b => ?_, fun b hb => ?_⟩
  · simp only [Machine.setChuteEye, onDivert_divert, PerArm.get_set, levelSet_apply]
    split
    · rfl
    · exact h.start b
  · rw [levelSet_apply]
    split
    · rfl
    · exact h.jammed b (jammed_congr rfl rfl b ▸ hb)

/-- A clearing edge removes the block start of its eye and any jam of its arm, R106. -/
theorem EyesFor.chuteCleared {v : Arm → Bool} {s : State} (h : EyesFor v s) (a : Arm) :
    EyesFor (levelSet v a false) (chuteCleared a s) := by
  have ht : EyesFor v (withLights (jamArm a) s) := h.acts (withLights_acts (jamArm_acts a s))
  refine EyesFor.acts ?_ (clearJam_acts a _)
  generalize withLights (jamArm a) s = t at ht
  have hstart : ∀ b, ((Machine.setChuteEye a { blockStart := none, jamDue := false } t).divert.eyes.get
      b).blockStart.isSome = levelSet v a false b := by
    intro b
    simp only [Machine.setChuteEye, onDivert_divert, PerArm.get_set, levelSet_apply]
    split
    · rfl
    · exact ht.start b
  have hother : ∀ b, b ≠ a → t.jammed b = true → levelSet v a false b = true := by
    intro b hb hj
    rw [levelSet_of_ne hb]
    exact ht.jammed b hj
  cases a with
  | reject =>
    refine ⟨hstart, fun b hb => ?_⟩
    cases b with
    | lane m => exact hother _ nofun ((jammed_lane t m).trans ((jammed_lane _ m).symm.trans hb))
    | reject => cases hb
  | lane n =>
    simp only [unjam]
    split
    · rename_i r hr
      refine ⟨hstart, fun b hb => ?_⟩
      cases b with
      | lane m =>
        rw [jammed_lane] at hb
        simp only [Machine.setLane, Machine.setChuteEye, onDivert_divert, PerLane.get_set] at hb
        split at hb
        · cases r <;> cases hb
        · exact hother _ (fun heq => ‹¬ m = n› (Arm.lane.inj heq)) ((jammed_lane t m).trans hb)
      | reject => exact hother _ nofun hb
    · rename_i hr
      refine ⟨hstart, fun b hb => ?_⟩
      by_cases heq : b = .lane n
      · subst heq
        rw [jammed_lane, LaneState.isJammed.eq_def] at hb
        split at hb
        · exact absurd ‹_› (hr _)
        · cases hb
      · exact hother b heq (jammed_congr rfl rfl b ▸ hb)

/-- The block starts and jams stand as the filtered levels say, R103 and R106. -/
abbrev Watched (s : State) : Prop := EyesFor (fun a => (s.belt.eyes.get (.chute a)).blocked) s

theorem Watched.turn {s t : State} (h : Watched s) (hturn : Turn s t) : Watched t := by
  cases hturn
  case deed hdeed =>
    rw [Watched, hdeed.belt]
    exact EyesFor.deed h hdeed
  case filtered e k _ =>
    have heq : (fun a => ((setFilter e { s.belt.eyes.get e with count := k } s).belt.eyes.get
        (.chute a)).blocked) = fun a => (s.belt.eyes.get (.chute a)).blocked := by
      funext a
      simp only [setFilter, onBelt_belt, PerEye.get_set]
      split
      · rename_i he
        rw [he]
      · rfl
    rw [Watched, heq]
    exact EyesFor.of_divert h rfl
  case edge e _ =>
    have hset : EyesFor (fun a => (s.belt.eyes.get (.chute a)).blocked)
        (setFilter e { blocked := s.rawLevel e, count := 0 } s) := EyesFor.of_divert h rfl
    rw [Watched, makeEdge_eyes]
    cases e with
    | cap =>
      simp only [PerEye.get_set, reduceCtorEq, reduceIte]
      refine EyesFor.deeds hset ?_
      simp only [makeEdge, takeEdge]
      split
      · exact leadingEdge_deeds _
      · exact .single (.trailed _)
    | chute a =>
      have heq : (fun b => ((s.belt.eyes.set (.chute a)
          { blocked := s.rawLevel (.chute a), count := 0 }).get (.chute b)).blocked) =
          levelSet (fun b => (s.belt.eyes.get (.chute b)).blocked) a
            (s.rawLevel (.chute a)) := by
        funext b
        rw [PerEye.get_set, levelSet_apply]
        simp only [Eye.chute.injEq]
        split <;> rfl
      rw [heq]
      simp only [makeEdge, takeEdge]
      rcases hraw : s.rawLevel (.chute a) with _ | _
      · rw [hraw] at hset
        exact hset.chuteCleared a
      · rw [hraw] at hset
        exact hset.chuteBlocked a

theorem Watched.turns {s t : State} (h : Watched s) (hturns : Turns s t) : Watched t :=
  keeps_of_run (P := fun u => Watched u) (fun _ _ hturn hu => Watched.turn hu hturn) hturns h

/-- For a running part the law of the eyes is that every eye is calm, and watched. -/
theorem eyesLaw_iff {s : State} (hr : s.inReset = false) :
    EyesLaw s ↔ Watched s ∧ ∀ e, Calm s e :=
  ⟨fun h => ⟨⟨h.start, h.jammed⟩, h.count⟩, fun ⟨hw, hc⟩ =>
    ⟨hw.start, hw.jammed, hc, fun hheld => absurd (hr.symm.trans hheld) Bool.false_ne_true⟩⟩

theorem EyesLaw.of_eq {s t : State} (h : EyesLaw s) (hr : t.inReset = s.inReset)
    (hpins : t.pins = s.pins) (hbelt : t.belt = s.belt) (hdivert : t.divert = s.divert)
    (hparams : t.params = s.params) : EyesLaw t := by
  have hw : Watched t := by
    rw [Watched, hbelt]
    exact EyesFor.of_divert ⟨h.start, h.jammed⟩ hdivert
  refine ⟨hw.start, hw.jammed, fun e => ?_, fun hheld => ?_⟩
  · exact (show Calm s e from h.count e).congr hpins hparams (by rw [hbelt])
  · rw [hbelt]
    exact h.held (hr ▸ hheld)

theorem watched_stored {s : State} (h : Watched s) (q : Param) (v : Nat) :
    Watched (stored q v s) := by
  cases q
  case eyeFilter =>
    simp only [stored, Watched, onBelt_belt, PerEye.get_map]
    exact EyesFor.of_divert h rfl
  all_goals exact EyesFor.of_divert h rfl

theorem EyesLaw.move {s t : State} (h : EyesLaw s) (hr : s.inReset = false) (hmove : Move s t) :
    EyesLaw t := by
  obtain ⟨hwatched, hcalm⟩ := (eyesLaw_iff hr).mp h
  have hrt : t.inReset = false := hmove.frame.right.trans hr
  cases hmove
  case turn hturn => exact (eyesLaw_iff hrt).mpr ⟨hwatched.turn hturn, fun e => hturn.calm (hcalm e)⟩
  case pulsed =>
    exact (eyesLaw_iff hrt).mpr ⟨EyesFor.of_divert hwatched rfl, fun e => (hcalm e).congr rfl rfl rfl⟩
  case counted =>
    refine (eyesLaw_iff hrt).mpr ⟨⟨fun a => ?_, fun a ha => ?_⟩, fun e => (hcalm e).congr rfl rfl rfl⟩
    · refine Eq.trans ?_ (hwatched.start a)
      simp [makeCount, markDue, ChuteEye.markJam]
    · exact hwatched.jammed a (jammed_congr rfl rfl a ▸ ha)
  case pinned e high hturns hcalm' =>
    refine (eyesLaw_iff hrt).mpr ⟨Watched.turns ?_ hturns, hcalm' hcalm⟩
    exact EyesFor.of_divert hwatched rfl
  case stopped =>
    have hw : Watched (stopTaken true s) := EyesFor.of_divert hwatched rfl
    have hc : ∀ e, Calm (stopTaken true s) e := hcalm
    split
    · have hturn : Turn (stopTaken true s) (clearArmsLive (stopTaken true s)) :=
        .deed (.act (.disarmed _))
      exact (eyesLaw_iff (hturn.works.firm.inReset.trans hr)).mpr
        ⟨hw.turn hturn, fun e => hturn.calm (hc e)⟩
    · exact (eyesLaw_iff (s := stopTaken true s) hr).mpr ⟨hw, hc⟩
  case written q v _ _ _ _ _ _ =>
    refine (eyesLaw_iff hrt).mpr ⟨Watched.turns ?_ ‹_›, ‹(∀ d, Calm s d) → ∀ d, Calm t d› hcalm⟩
    exact watched_stored hwatched q _
  all_goals exact (eyesLaw_iff hrt).mpr ⟨EyesFor.of_divert hwatched rfl, hcalm⟩

theorem eyesLaw_at_rest {s : State} (hpins : s.belt.eyes = BeltPosition.reset.eyes)
    (hdivert : s.divert = DivertScheduler.reset) : EyesLaw s := by
  refine ⟨fun a => ?_, fun a ha => ?_, fun e _ => ?_, fun _ e => ?_⟩
  · rw [hpins, hdivert]
    simp [DivertScheduler.reset, BeltPosition.reset]
  · rw [jammed_congr (t := s) (s := State.reset) (by rw [hdivert]; rfl) (by rw [hdivert]; rfl)] at ha
    cases a with
    | lane n => cases n <;> cases ha
    | reject => cases ha
  · rw [hpins]
    simp [BeltPosition.reset]
  · rw [hpins]
    simp [BeltPosition.reset]

theorem eyesLaw_lawful : Lawful EyesLaw where
  pending _ h := h.of_eq rfl rfl rfl rfl rfl
  wire hr hwire h := by
    cases hwire
    case move hmove => exact h.move hr hmove
    case sent =>
      unfold frameSent
      split <;> exact h.of_eq rfl rfl rfl rfl rfl
    all_goals exact h.of_eq rfl rfl rfl rfl rfl
  held pins hr h := ⟨h.start, h.jammed, fun e _ => h.held hr e, h.held⟩
  reset k _ := eyesLaw_at_rest rfl rfl
  ended {s} straps hr h := by
    have hrt : (endReset straps s).inReset = false := by simp [endReset]
    have hbelt : (endReset straps s).belt = s.belt := by simp [endReset]
    refine (eyesLaw_iff hrt).mpr ⟨?_, fun e _ => ?_⟩
    · rw [Watched, hbelt]
      exact EyesFor.of_divert ⟨h.start, h.jammed⟩ (by simp [endReset])
    · rw [hbelt]
      exact h.held hr e

/-- Settles O57: each of the two laws is kept by all that a step is made of. -/
theorem parameterAndEyeLawsAreKept : Obligations.ParameterAndEyeLawsAreKept :=
  fun _ _ hstep => ⟨paramsLaw_lawful.step hstep, eyesLaw_lawful.step hstep⟩

end Sys2Proof.Machine
end

section
/-! PROOFS. The laws of the pause state, of ARMS_LIVE and of the arms' schedules are kept by every step. -/

namespace Sys2Proof.Machine

/-! ### The pause state -/

/-- The outputs follow the pause state, R150, and the part is RUNNING exactly while no pause is wanted. -/
structure PauseController.Sound (c : PauseController) : Prop where
  ack : c.pauseAck = true ↔ c.state = .held
  hold : c.inductHold = true ↔ c.state ≠ .running
  wanted : c.state = .running ↔ c.wanted = false

theorem PauseController.wanted_eq_false {c : PauseController} :
    c.wanted = false ↔ (c.requestAsserted = false ∧ c.controlPause = false) := by
  simp [PauseController.wanted]

theorem PauseController.Sound.move {c : PauseController} {st : PauseState}
    (h : st = .running ↔ c.wanted = false) : (c.move st).Sound where
  ack := by simp [PauseController.move]
  hold := by simp [PauseController.move]
  wanted := h

/-- The pause state follows a change of its sources, R147, R151, R153. -/
theorem PauseController.Sound.follow {c d : PauseController} (h : c.Sound)
    (hstate : d.state = c.state) (hhold : d.inductHold = c.inductHold)
    (hack : d.pauseAck = c.pauseAck) : (c.follow d).Sound := by
  have hsame : (d.state = .running ↔ d.wanted = false) → d.Sound := fun hd =>
    ⟨by rw [hack, hstate]; exact h.ack, by rw [hhold, hstate]; exact h.hold, hd⟩
  have hrun : d.state = .running ↔ c.wanted = false := by
    rw [hstate]
    exact h.wanted
  unfold PauseController.follow
  split
  · rename_i hbefore hafter
    split
    · exact .move (by simp [hafter])
    · exact absurd (hrun.mpr hbefore) ‹_›
  · rename_i hbefore hafter
    split
    · rename_i hd
      exact absurd (hbefore.symm.trans (hrun.mp hd)) (by decide)
    · exact .move (by simp [hafter])
  · rename_i hft htf
    refine hsame ?_
    rw [hrun]
    rcases hc : c.wanted <;> rcases hd : d.wanted
    · exact Iff.rfl
    · exact (hft hc hd).elim
    · exact (htf hc hd).elim
    · exact Iff.rfl

theorem pauseLaw_iff {s : State} (hr : s.inReset = false) :
    PauseLaw s ↔ s.pause.Sound ∧ s.pause.stopAsserted = s.pins.lineStop ∧
      s.pause.requestAsserted = s.pins.pauseReq :=
  ⟨fun h => ⟨⟨h.ack, h.hold, h.wanted.trans PauseController.wanted_eq_false.symm⟩, h.stop hr,
      h.request hr⟩,
    fun ⟨h, hstop, hrequest⟩ => ⟨h.ack, h.hold, h.wanted.trans PauseController.wanted_eq_false,
      fun _ => hstop, fun _ => hrequest,
      fun hheld => absurd (hr.symm.trans hheld) Bool.false_ne_true⟩⟩

theorem BookOnly.pause_eq {s t : State} (h : BookOnly s t) : t.pause = s.pause := by
  obtain ⟨b, l, u, rfl⟩ := h
  rfl

theorem PauseController.Sound.act {s t : State} (hact : Act s t) (h : s.pause.Sound) :
    t.pause.Sound := by
  have hsame : ∀ {u : State}, u.pause = s.pause → u.pause.Sound := fun hu => hu ▸ h
  cases hact
  case granted hstate =>
    refine .move ((iff_of_false nofun fun hw => ?_))
    exact absurd (hstate.symm.trans (h.wanted.mpr hw)) (by decide)
  case stirred hstate =>
    refine .move ((iff_of_false nofun fun hw => ?_))
    exact absurd (hstate.symm.trans (h.wanted.mpr hw)) (by decide)
  case sourced b => exact h.follow rfl rfl rfl
  case told | counted | marked | bound | promoted => exact hsame (by simp)
  case lightSent =>
    unfold Machine.lightSent
    split
    · exact h
    · exact hsame (by simp)
  case gaveUp p reason _ => exact hsame (giveUp_bookOnly p reason s).pause_eq
  case fired a =>
    rcases fireArm_cases a s with heq | ⟨-, heq⟩ <;> rw [heq]
    · exact h
    · exact hsame rfl
  case dwellEnded a =>
    rcases endDwell_cases a s with heq | heq <;> rw [heq]
    · exact h
    · exact hsame rfl
  case lapsed a =>
    rcases lapseLastFire_cases a s with heq | heq <;> rw [heq]
    · exact h
    · exact hsame rfl
  case missed tag =>
    rcases missEntry_bookOnly tag s with heq | hbook
    · rw [heq]
      exact h
    · exact hsame hbook.pause_eq
  case jammed a _ => cases a <;> exact hsame rfl
  case confirmed a _ _ => cases a <;> exact hsame rfl
  case put => exact hsame (confirm_bookOnly ..).pause_eq
  case cancelled o _ _ => exact hsame (cancelInFlight_bookOnly o s).pause_eq
  case disarmed => exact hsame (clearArmsLive_bookOnly s).pause_eq
  all_goals exact hsame rfl

theorem PauseController.Sound.works {s t : State} (hworks : Works s t) (h : s.pause.Sound) :
    t.pause.Sound := by
  refine keeps_of_run (P := fun u => u.pause.Sound) (fun _ _ hwork hu => ?_) hworks h
  cases hwork
  case touched => exact hu
  case deed hdeed =>
    cases hdeed
    case act hact => exact .act hact hu
    case cleared => 
      rw [(clearLists_bookOnly _).pause_eq]
      exact hu
    all_goals exact hu

theorem PauseLaw.move {s t : State} (h : PauseLaw s) (hr : s.inReset = false) (hmove : Move s t) :
    PauseLaw t := by
  obtain ⟨hsound, hstop, hrequest⟩ := (pauseLaw_iff hr).mp h
  refine (pauseLaw_iff (hmove.frame.right.trans hr)).mpr ?_
  have hworks : ∀ {u v : State}, Works u v → u.pause.Sound → u.pause.stopAsserted = u.pins.lineStop →
      u.pause.requestAsserted = u.pins.pauseReq → v.pause.Sound ∧
        v.pause.stopAsserted = v.pins.lineStop ∧ v.pause.requestAsserted = v.pins.pauseReq := by
    intro u v huv hu hus hur
    have hfirm := huv.firm
    rw [hfirm.stop, hfirm.request, hfirm.pins]
    exact ⟨.works huv hu, hus, hur⟩
  have hstopped : ∀ level, (stopTaken level s).pause.Sound := fun level =>
    ⟨hsound.ack, hsound.hold, hsound.wanted⟩
  cases hmove
  case turn hturn => exact hworks hturn.works hsound hstop hrequest
  case pinned hturns _ => exact hworks hturns.works hsound hstop hrequest
  case stopped =>
    split
    · exact hworks (.single (.deed (.act (.disarmed (stopTaken true s))))) (hstopped true) rfl hrequest
    · exact ⟨hstopped true, rfl, hrequest⟩
  case released => exact ⟨hstopped false, rfl, hrequest⟩
  case requested level =>
    obtain ⟨hs, hq⟩ := PauseController.follow_inputs s.pause
      { s.pause with requestAsserted := level }
    exact ⟨hsound.follow rfl rfl rfl, hs.trans hstop, hq⟩
  case written q v _ _ _ _ _ _ =>
    have hstored : ∀ v, (stored q v s).pause = s.pause ∧ (stored q v s).pins = s.pins := fun v => by
      cases q <;> exact ⟨rfl, rfl⟩
    refine hworks (Turns.works ‹_›) ?_ ?_ ?_
    all_goals rw [(hstored _).left]
    · exact hsound
    · rw [(hstored _).right]
      exact hstop
    · rw [(hstored _).right]
      exact hrequest
  all_goals exact ⟨hsound, hstop, hrequest⟩

theorem pauseLaw_at_reset (k : ResetKind) (s : State) : PauseLaw (takeReset k s) := by
  refine ⟨?_, ?_, ?_, nofun, nofun, fun _ => rfl⟩ <;> simp [takeReset, PauseController.reset]

theorem pauseLaw_lawful : Lawful PauseLaw where
  pending _ h := ⟨h.ack, h.hold, h.wanted, h.stop, h.request, h.reset⟩
  wire {s t} hr hwire h := by
    cases hwire
    case move hmove => exact h.move hr hmove
    case sent =>
      unfold frameSent
      split <;> exact ⟨h.ack, h.hold, h.wanted, h.stop, h.request, h.reset⟩
    all_goals exact ⟨h.ack, h.hold, h.wanted, h.stop, h.request, h.reset⟩
  held {s} pins hr h := ⟨h.ack, h.hold, h.wanted,
    fun hf => absurd (hr.symm.trans hf) (by decide),
    fun hf => absurd (hr.symm.trans hf) (by decide), h.reset⟩
  reset {s} k _ := pauseLaw_at_reset k s
  ended {s} straps hr h := by
    have hpause : (endReset straps s).pause =
        { s.pause with
          stopAsserted := s.pins.lineStop, requestAsserted := s.pins.pauseReq } := by
      simp [endReset]
    have hpins : (endReset straps s).pins = s.pins := by simp [endReset]
    have hheld : s.pause.state ≠ .running := fun hs =>
      absurd ((h.wanted.mp hs).right.symm.trans (h.reset hr)) (by decide)
    refine (pauseLaw_iff (by simp [endReset])).mpr ?_
    rw [hpause, hpins]
    refine ⟨⟨h.ack, h.hold, iff_of_false hheld ?_⟩, rfl, rfl⟩
    simp [PauseController.wanted, h.reset hr]

/-! ### The schedules -/

/-- The arm and the fire position of a SCHEDULED entry. -/
def Entry.aim (e : Entry) : Option (Option Arm × Pos) := e.firePosition.map fun f => (e.dest.arm, f)

/-- The fire positions of all arms, in queue order. -/
def State.slate (s : State) : List (Option Arm × Pos) := s.divert.queue.filterMap Entry.aim

theorem Entry.aim_eq_none {e : Entry} : e.aim = none ↔ e.isScheduled = false := by
  unfold Entry.aim Entry.firePosition Entry.isScheduled
  cases e.state <;> simp

theorem Entry.aim_of_scheduled {e : Entry} {f : Pos} (h : e.state = .scheduled f) :
    e.aim = some (e.dest.arm, f) := by
  simp [Entry.aim, Entry.firePosition, h]

theorem slate_eq_nil {s : State} :
    s.slate = [] ↔ ∀ e ∈ s.divert.queue, e.isScheduled = false := by
  rw [State.slate, List.filterMap_eq_nil_iff]
  exact forall₂_congr fun e _ => Entry.aim_eq_none

theorem firePositions_eq (s : State) (a : Arm) :
    s.firePositions a = (s.slate.filter fun x => x.1 == some a).map Prod.snd := by
  simp only [State.firePositions, State.slate]
  induction s.divert.queue with
  | nil => rfl
  | cons e queue ih =>
    rcases he : e.state with f | ⟨f, d⟩ | r
    · have haim := Entry.aim_of_scheduled he
      rcases ha : e.dest.arm == some a
      · simp [Entry.scheduledOn, haim, ha, ih]
      · simp [Entry.scheduledOn, Entry.isScheduled, Entry.firePosition, haim, ha, he, ih]
    all_goals
      have haim : e.aim = none := Entry.aim_eq_none.mpr (by simp [Entry.isScheduled, he])
      simp [Entry.scheduledOn, Entry.isScheduled, haim, he, ih]

theorem filterMap_map_sublist {α β : Type} {f : α → Option β} {g : α → α}
    (h : ∀ x, f (g x) = f x ∨ f (g x) = none) (l : List α) :
    ((l.map g).filterMap f).Sublist (l.filterMap f) := by
  induction l with
  | nil => exact .slnil
  | cons x l ih =>
    rw [List.map_cons, List.filterMap_cons, List.filterMap_cons]
    rcases h x with hx | hx <;> rw [hx] <;> rcases f x with _ | y
    · exact ih
    · exact ih.cons_cons y
    · exact ih
    · exact ih.cons y

/-- What `changeFirst` makes of a list: the first element that satisfies the test is changed. -/
theorem changeFirst_split {α : Type} {p : α → Bool} (f : α → α) {l : List α} (h : l.any p = true) :
    ∃ l₁ x l₂, l = l₁ ++ x :: l₂ ∧ p x = true ∧ (∀ y ∈ l₁, p y = false) ∧
      changeFirst p f l = l₁ ++ f x :: l₂ := by
  induction l with
  | nil => cases h
  | cons y l ih =>
    rcases hy : p y with _ | _
    · rw [List.any_cons, hy, Bool.false_or] at h
      obtain ⟨l₁, x, l₂, rfl, hx, hall, heq⟩ := ih h
      refine ⟨y :: l₁, x, l₂, rfl, hx, List.forall_mem_cons.mpr ⟨hy, hall⟩, ?_⟩
      rw [changeFirst, hy, heq]
      rfl
    · exact ⟨[], y, l, rfl, hy, nofun, by simp [changeFirst, hy]⟩

theorem changeFirst_of_none {α : Type} {p : α → Bool} (f : α → α) {l : List α}
    (h : l.any p = false) : changeFirst p f l = l := by
  induction l with
  | nil => rfl
  | cons y l ih =>
    rw [List.any_cons, Bool.or_eq_false_iff] at h
    rw [changeFirst, h.left, ih h.right]
    rfl

theorem filterMap_changeFirst_sublist {α β : Type} {f : α → Option β} {g : α → α} {p : α → Bool}
    (h : ∀ x, f (g x) = none) (l : List α) :
    ((changeFirst p g l).filterMap f).Sublist (l.filterMap f) := by
  rcases hany : l.any p with _ | _
  · exact (congrArg (List.filterMap f) (changeFirst_of_none g hany)).symm ▸ List.Sublist.refl (l.filterMap f)
  · obtain ⟨l₁, x, l₂, rfl, -, -, heq⟩ := changeFirst_split g hany
    rw [heq, List.filterMap_append, List.filterMap_append, List.filterMap_cons, h x]
    refine List.Sublist.append_left ?_ _
    rw [List.filterMap_cons]
    rcases f x with _ | y
    · exact .refl _
    · exact List.sublist_cons_self y _

/-- No fire position is gained, and no output and no last fire position but by the loss of one. -/
structure Slack (s t : State) : Prop where
  output : ∀ a, (t.divert.arms.get a).output = (s.divert.arms.get a).output ∨
    (t.divert.arms.get a).output = none
  lastFire : ∀ a, (t.divert.arms.get a).lastFire = (s.divert.arms.get a).lastFire ∨
    (t.divert.arms.get a).lastFire = none
  slate : t.slate.Sublist s.slate

theorem Slack.of_queue {s t : State} (harms : t.divert.arms = s.divert.arms)
    (hslate : t.slate.Sublist s.slate) : Slack s t :=
  ⟨fun _ => .inl (by rw [harms]), fun _ => .inl (by rw [harms]), hslate⟩

theorem Slack.of_divert {s t : State} (h : t.divert = s.divert) : Slack s t :=
  .of_queue (by rw [h]) (by rw [State.slate, h]; exact .refl _)

theorem BookOnly.divert_eq {s t : State} (h : BookOnly s t) : t.divert = s.divert := by
  obtain ⟨b, l, u, rfl⟩ := h
  rfl

theorem Slack.bookOnly {s t u : State} (h : Slack s t) (htu : BookOnly t u) : Slack s u := by
  obtain ⟨b, l, v, rfl⟩ := htu
  exact ⟨h.output, h.lastFire, h.slate⟩

theorem aim_cancelFor (slot : Nat) (e : Entry) :
    (e.cancelFor slot).aim = e.aim ∨ (e.cancelFor slot).aim = none := by
  unfold Entry.cancelFor
  split
  · rename_i hstate
    split
    · exact .inr (by simp [Entry.aim, Entry.firePosition, hstate])
    · exact .inl rfl
  · split
    · exact .inr rfl
    · exact .inl rfl
  · exact .inl rfl

theorem outbound_slack (p : Entry → Bool) (reason : OutboundReason) (s : State) :
    Slack s (outbound p reason s) := by
  refine .of_queue rfl (filterMap_map_sublist (fun e => ?_) _)
  split
  · exact .inr rfl
  · exact .inl rfl

theorem removeEntry_slack (p : Entry → Bool) (s : State) : Slack s (removeEntry p s) :=
  .of_queue rfl (List.Sublist.filterMap _ (List.eraseP_sublist ..))

/-- An entry SCHEDULED for an arm joins the queue. -/
structure Aimed (a : Arm) (f : Pos) (s t : State) : Prop where
  live : s.divert.armsLive = true
  spaced : s.spaced a f = true
  slate : t.slate = s.slate ++ [(some a, f)]
  arms : t.divert.arms = s.divert.arms
  armsLive : t.divert.armsLive = s.divert.armsLive

theorem slate_joinBelt {e : Entry} {f : Pos} {a : Arm} {s : State} (he : e.state = .scheduled f)
    (ha : e.dest.arm = some a) : (joinBelt e s).slate = s.slate ++ [(some a, f)] := by
  simp only [State.slate, joinBelt, onDivert_divert, List.filterMap_append, List.filterMap_cons,
    List.filterMap_nil, Entry.aim_of_scheduled he, ha]

/-- What an act does to the arms and their schedules. -/
theorem Act.schedules {s t : State} (h : Act s t) :
    (Slack s t ∧ t.divert.armsLive = s.divert.armsLive) ∨ (∃ a, t = fireArm a s) ∨
      (∃ a f, Aimed a f s t) ∨
      (t = setArmsLive s ∧ s.pause.stopAsserted = false ∧ geometryConsistent s.params = true) ∨
      t = clearArmsLive s := by
  have hdivert : ∀ {u : State}, u.divert = s.divert →
      Slack s u ∧ u.divert.armsLive = s.divert.armsLive := fun hu =>
    ⟨.of_divert hu, by rw [hu]⟩
  cases h
  case told | counted | marked | bound | promoted => exact .inl (hdivert (by simp))
  case lightSent =>
    unfold Machine.lightSent
    split
    · exact .inl (hdivert rfl)
    · exact .inl (hdivert (by simp))
  case laneSet => exact .inl ⟨.of_queue rfl (.refl _), rfl⟩
  case jammed a _ => cases a <;> exact .inl ⟨.of_queue rfl (.refl _), rfl⟩
  case gaveUp p reason _ =>
    have hbook := giveUp_bookOnly p reason s
    exact .inl ⟨(outbound_slack p reason s).bookOnly hbook, by rw [hbook.divert_eq]; rfl⟩
  case fired a => exact .inr (.inl ⟨a, rfl⟩)
  case dwellEnded a =>
    rcases endDwell_cases a s with heq | heq <;> rw [heq]
    · exact .inl (hdivert rfl)
    · refine .inl ⟨⟨fun b => ?_, fun b => ?_, .refl _⟩, rfl⟩
      all_goals
        simp only [setArm, onDivert_divert, PerArm.get_set]
        split
      · exact .inr rfl
      · exact .inl rfl
      · rename_i hb
        exact .inl (by rw [hb])
      · exact .inl rfl
  case lapsed a =>
    rcases lapseLastFire_cases a s with heq | heq <;> rw [heq]
    · exact .inl (hdivert rfl)
    · refine .inl ⟨⟨fun b => ?_, fun b => ?_, .refl _⟩, rfl⟩
      all_goals
        simp only [setArm, onDivert_divert, PerArm.get_set]
        split
      · rename_i hb
        exact .inl (by rw [hb])
      · exact .inl rfl
      · exact .inr rfl
      · exact .inl rfl
  case missed tag =>
    rcases missEntry_bookOnly tag s with heq | hbook
    · rw [heq]
      exact .inl (hdivert rfl)
    · have hslack : Slack s (missedState tag s) :=
        .of_queue rfl (filterMap_changeFirst_sublist (fun _ => rfl) _)
      exact .inl ⟨hslack.bookOnly hbook, by rw [hbook.divert_eq]; rfl⟩
  case left tag => exact .inl ⟨removeEntry_slack _ s, rfl⟩
  case confirmed a e _ => 
    have hremove := removeEntry_slack (Entry.awaits a) s
    cases a <;> exact .inl ⟨⟨hremove.output, hremove.lastFire, hremove.slate⟩, rfl⟩
  case recirculated e r he _ =>
    have haim : e.aim = none := Entry.aim_eq_none.mpr (by simp [Entry.isScheduled, he])
    refine .inl ⟨.of_queue rfl ?_, rfl⟩
    simp [State.slate, joinBelt, haim]
  case rejected e r _ _ _ _ =>
    have hfits : s.rejectFits e.lead = true := ‹_›
    have hdest : e.dest = .reject r := ‹_›
    refine .inr (.inr (.inl ⟨.reject, _, ‹BeltOpen s›.live, ?_, slate_joinBelt ‹_› ?_, rfl, rfl⟩))
    · simp only [State.rejectFits, Bool.and_eq_true] at hfits
      exact hfits.right
    · rw [hdest]
      rfl
  case placed c x e _ _ _ _ _ _ _ _ =>
    have hq : c.qualifies s x = true := ‹_›
    have hdest : e.dest = .place c.lane c.position c.order.slot c.line c.kind := ‹_›
    have hstate : e.state = .scheduled (c.fire s x.entry.lead) := ‹_›
    refine .inr (.inr (.inl ⟨.lane c.lane, _, ‹BeltOpen s›.live, ?_,
      slate_joinBelt (s := reserve c.order.slot c.line x.grams x.product.layer s) hstate ?_, rfl, rfl⟩))
    · simp only [Candidate.qualifies, Candidate.passesRest, Bool.and_eq_true] at hq
      exact hq.right.right
    · rw [hdest]
      rfl
  case put n _ rest _ _ _ _ _ =>
    exact .inl (hdivert (by simp [setChute]))
  case cancelled o _ _ =>
    have hbook := cancelInFlight_bookOnly o s
    have hslack : Slack s (cancelledState o s) :=
      .of_queue rfl (filterMap_map_sublist (aim_cancelFor o.slot) _)
    exact .inl ⟨hslack.bookOnly hbook, by rw [hbook.divert_eq]; rfl⟩
  case armed hstop hgeometry => exact .inr (.inr (.inr (.inl ⟨rfl, hstop, hgeometry⟩)))
  case disarmed => exact .inr (.inr (.inr (.inr rfl)))
  all_goals exact .inl (hdivert rfl)

end Sys2Proof.Machine
end

section
/-! PROOFS. The law of ARMS_LIVE and that of the arms' schedules, over what an act does to the schedules. -/

namespace Sys2Proof.Machine

/-! ### ARMS_LIVE -/

theorem ArmsLaw.of_slack {s t : State} (h : ArmsLaw s) (hslack : Slack s t)
    (hlive : t.divert.armsLive = s.divert.armsLive)
    (hstop : t.pause.stopAsserted = s.pause.stopAsserted)
    (hgeometry : s.divert.armsLive = true → geometryConsistent t.params = true)
    (hreset : t.inReset = s.inReset) : ArmsLaw t where
  outputs hoff a := by
    have hnone := h.outputs (hlive.symm.trans hoff) a
    rcases hslack.output a with heq | heq
    · exact heq.trans hnone
    · exact heq
  schedules hoff := by
    have hnil := slate_eq_nil.mpr (h.schedules (hlive.symm.trans hoff))
    have hsub := hslack.slate
    rw [hnil, List.sublist_nil] at hsub
    exact slate_eq_nil.mp hsub
  stop hon := hstop.trans (h.stop (hlive.symm.trans hon))
  geometry hon := hgeometry (hlive.symm.trans hon)
  held hheld := hlive.trans (h.held (hreset.symm.trans hheld))

theorem ArmsLaw.of_steady {s t : State} (h : ArmsLaw s) (hslack : Slack s t)
    (hlive : t.divert.armsLive = s.divert.armsLive) (hsteady : Steady s t) : ArmsLaw t :=
  h.of_slack hslack hlive hsteady.stop
    (fun hon => by rw [hsteady.params]; exact h.geometry hon) hsteady.inReset

/-- A fire that is due has its arm live, and takes the position P off the arm's schedule, R92. -/
theorem fireArm_spec (a : Arm) (s : State) :
    fireArm a s = s ∨ ∃ m₁ m₂, s.slate = m₁ ++ (some a, s.p) :: m₂ ∧
      (fireArm a s).slate = m₁ ++ m₂ ∧
      (fireArm a s).divert.armsLive = s.divert.armsLive ∧
      (fireArm a s).divert.arms = s.divert.arms.set a
        { lastFire := some s.p, output := some (beyond s.p s.params.armDwell), lapseDue := false } := by
  rcases fireArm_cases a s with heq | ⟨hany, heq⟩
  · exact .inl heq
  · obtain ⟨l₁, e, l₂, hsplit, hdue, -, hchange⟩ := changeFirst_split
      (fun e => { e with state := .fired s.p (beyond s.p s.params.confirmWindow) }) hany
    have haim : e.aim = some (some a, s.p) := by
      simp only [Entry.fireDue, Entry.scheduledOn, Bool.and_eq_true, beq_iff_eq] at hdue
      rw [Entry.aim, hdue.right, hdue.left.left]
      rfl
    refine .inr ⟨l₁.filterMap Entry.aim, l₂.filterMap Entry.aim, ?_, ?_, ?_, ?_⟩
    · rw [State.slate, hsplit, List.filterMap_append, List.filterMap_cons, haim]
    · rw [heq]
      simp only [State.slate, setArm, changeEntry, count_divert, onDivert_divert, hchange,
        List.filterMap_append, List.filterMap_cons]
      rfl
    · rw [heq]
      rfl
    · rw [heq]
      rfl

/-- ARMS_LIVE is clear afterwards, with no output active and no entry SCHEDULED, R109. -/
theorem clearArmsLive_spec (s : State) :
    Slack s (clearArmsLive s) ∧ (clearArmsLive s).divert.armsLive = false ∧
      (∀ a, ((clearArmsLive s).divert.arms.get a).output = none) ∧ (clearArmsLive s).slate = [] := by
  have hslate : (outbound Entry.isScheduled .armsOff (arrestedState s)).slate = [] := by
    refine slate_eq_nil.mpr fun e he => ?_
    obtain ⟨x, -, rfl⟩ := List.mem_map.mp he
    split
    · rfl
    · exact eq_false_of_ne_true ‹_›
  rw [State.slate, (clearArmsLive_bookOnly s).divert_eq]
  refine ⟨Slack.bookOnly ⟨fun a => .inr ?_, fun a => .inl ?_, ?_⟩ (clearArmsLive_bookOnly s), rfl,
    fun a => ?_, hslate⟩
  · simp [outbound, arrestedState]
  · simp [outbound, arrestedState]
  · rw [hslate]
    exact List.nil_sublist _
  · simp [outbound, arrestedState]

theorem armsLaw_cleared (s : State) : ArmsLaw (clearArmsLive s) := by
  obtain ⟨-, hlive, hout, hslate⟩ := clearArmsLive_spec s
  refine ⟨fun _ => hout, fun _ => slate_eq_nil.mp hslate, ?_, ?_, fun _ => hlive⟩
  all_goals exact fun hon => absurd (hlive.symm.trans hon) Bool.false_ne_true

theorem ArmsLaw.act {s t : State} (hr : s.inReset = false) (hact : Act s t) (h : ArmsLaw s) :
    ArmsLaw t := by
  have hsteady := hact.steady
  have hrt : t.inReset = false := hsteady.inReset.trans hr
  have hon : t.divert.armsLive = true → s.divert.armsLive = true → ArmsLaw t := fun ht hs =>
    ⟨fun hoff => absurd (ht.symm.trans hoff) (by decide),
      fun hoff => absurd (ht.symm.trans hoff) (by decide),
      fun _ => hsteady.stop.trans (h.stop hs),
      fun _ => by rw [hsteady.params]; exact h.geometry hs,
      fun hheld => absurd (hrt.symm.trans hheld) (by decide)⟩
  rcases hact.schedules with ⟨hslack, hlive⟩ | ⟨a, rfl⟩ | ⟨a, f, haimed⟩ | ⟨rfl, hstop, hgeometry⟩ | rfl
  · exact h.of_steady hslack hlive hsteady
  · rcases fireArm_spec a s with heq | ⟨m₁, m₂, hslate, -, hlive, -⟩
    · rw [heq]
      exact h
    · have hs : s.divert.armsLive = true := by
        refine Bool.of_not_eq_false fun hoff => ?_
        rw [slate_eq_nil.mpr (h.schedules hoff)] at hslate
        simp at hslate
      exact hon (hlive.trans hs) hs
  · exact hon (haimed.armsLive.trans haimed.live) haimed.live
  · exact ⟨nofun, nofun, fun _ => hstop, fun _ => hgeometry,
      fun hheld => absurd (hr.symm.trans hheld) Bool.false_ne_true⟩
  · exact armsLaw_cleared _

theorem clearLists_slack (s : State) : Slack s (clearLists s) := by
  refine Slack.bookOnly (t := emptiedState s) ⟨fun a => .inr ?_, fun a => .inr ?_, ?_⟩
    (clearLists_bookOnly s)
  · simp [emptiedState, ArmRec.reset]
  · simp [emptiedState, ArmRec.reset]
  · exact List.nil_sublist _

theorem ArmsLaw.work {s t : State} (hr : s.inReset = false) (hwork : Work s t) (h : ArmsLaw s) :
    ArmsLaw t := by
  cases hwork
  case touched => exact h.of_slack (.of_queue rfl (.refl _)) rfl rfl h.geometry rfl
  case deed hdeed =>
    cases hdeed
    case act hact => exact h.act hr hact
    case cleared =>
      have hfirm := (Deed.cleared s).firm
      exact h.of_slack (clearLists_slack s) (by rw [(clearLists_bookOnly s).divert_eq]; rfl) hfirm.stop
        (fun hon => by rw [hfirm.params]; exact h.geometry hon) hfirm.inReset
    all_goals exact h.of_slack (.of_divert rfl) rfl rfl h.geometry rfl

theorem ArmsLaw.works {s t : State} (hr : s.inReset = false) (hworks : Works s t) (h : ArmsLaw s) :
    ArmsLaw t :=
  (keeps_of_run (P := fun u => u.inReset = false ∧ ArmsLaw u)
    (fun _ _ hwork hu => ⟨hwork.firm.inReset.trans hu.left, hu.right.work hu.left hwork⟩)
    hworks ⟨hr, h⟩).right

/-- No parameter that is written while ARMS_LIVE is set is one of the geometry, R107 and R181. -/
theorem geometry_of_free {q : Param} (h : q.lockClass = .free) (v : Nat) (s : State) :
    geometryConsistent (stored q v s).params = geometryConsistent s.params := by
  cases q <;> cases h <;> rfl

theorem stored_divert (q : Param) (v : Nat) (s : State) : (stored q v s).divert = s.divert := by
  cases q <;> rfl

theorem ArmsLaw.move {s t : State} (hr : s.inReset = false) (hmove : Move s t) (h : ArmsLaw s) :
    ArmsLaw t := by
  cases hmove
  case turn hturn => exact h.works hr hturn.works
  case pinned hturns _ =>
    refine ArmsLaw.works (s := s.onPins _) hr hturns.works ?_
    exact h.of_slack (.of_divert rfl) rfl rfl h.geometry rfl
  case stopped =>
    split
    · exact armsLaw_cleared _
    · rename_i hlive
      exact ⟨h.outputs, h.schedules, fun hon => absurd hon hlive, h.geometry, h.held⟩
  case released => exact ⟨h.outputs, h.schedules, fun _ => rfl, h.geometry, h.held⟩
  case requested level =>
    exact h.of_slack (.of_divert rfl) rfl (PauseController.follow_inputs ..).left h.geometry rfl
  case counted =>
    refine h.of_slack ⟨fun a => .inl ?_, fun a => .inl ?_, .refl _⟩ rfl rfl h.geometry rfl
    · simp [makeCount, markDue, ArmRec.markLapse]
    · simp [makeCount, markDue, ArmRec.markLapse]
  case written q v hfree _ _ _ _ _ =>
    have hstored : ∀ v, (stored q v s).pause = s.pause ∧ (stored q v s).inReset = s.inReset :=
      fun v => by cases q <;> exact ⟨rfl, rfl⟩
    refine ArmsLaw.works ((hstored _).right.trans hr) (Turns.works ‹_›) ?_
    refine h.of_slack (.of_divert (stored_divert q _ s)) (by rw [stored_divert])
      (by rw [(hstored _).left]) (fun hon => ?_) (hstored _).right
    have hq : q.lockClass = .free := by
      rcases ‹q.lockClass = .free ∨ s.divert.armsLive = false› with hq | hoff
      · exact hq
      · exact absurd (hon.symm.trans hoff) (by decide)
    rw [geometry_of_free hq]
    exact h.geometry hon
  all_goals exact h.of_slack (.of_divert rfl) rfl rfl h.geometry rfl

theorem armsLaw_at_reset (k : ResetKind) (s : State) : ArmsLaw (takeReset k s) := by
  refine ⟨fun _ a => ?_, fun _ e he => absurd he List.not_mem_nil, nofun, nofun, fun _ => rfl⟩
  simp [takeReset, DivertScheduler.reset, ArmRec.reset]

theorem armsLaw_lawful : Lawful ArmsLaw where
  pending _ h := h.of_slack (.of_divert rfl) rfl rfl h.geometry rfl
  wire {s t} hr hwire h := by
    cases hwire
    case move hmove => exact h.move hr hmove
    case sent =>
      unfold frameSent
      split <;> exact h.of_slack (.of_divert rfl) rfl rfl h.geometry rfl
    all_goals exact h.of_slack (.of_divert rfl) rfl rfl h.geometry rfl
  held _ _ h := h.of_slack (.of_divert rfl) rfl rfl h.geometry rfl
  reset {s} k _ := armsLaw_at_reset k s
  ended {s} straps hr h := by
    have hdivert : (endReset straps s).divert = s.divert := by simp [endReset]
    have hoff := h.held hr
    refine ⟨fun _ => ?_, fun _ => ?_, fun hon => ?_, fun hon => ?_, fun _ => ?_⟩
    all_goals rw [hdivert] at *
    · exact h.outputs hoff
    · exact h.schedules hoff
    · exact absurd (hoff.symm.trans hon) (by decide)
    · exact absurd (hoff.symm.trans hon) (by decide)
    · exact hoff

/-! ### The arms' schedules -/

theorem ScheduleLaw.of_slack {s t : State} (h : ScheduleLaw s) (hslack : Slack s t)
    (hgap : t.params.armGap = s.params.armGap) : ScheduleLaw t := by
  have hsub : ∀ a, (t.firePositions a).Sublist (s.firePositions a) := fun a => by
    rw [firePositions_eq, firePositions_eq]
    exact (hslack.slate.filter _).map _
  refine ⟨fun a => (h.once a).sublist (hsub a), fun a => ?_, fun a f hf l hl => ?_⟩
  · rw [hgap]
    exact (h.apart a).sublist (hsub a)
  · rw [hgap]
    rcases hslack.lastFire a with heq | heq
    · exact h.after a f ((hsub a).subset hf) l (heq ▸ hl)
    · rw [heq] at hl
      cases hl

theorem scheduleLaw_of_empty {s : State} (h : s.slate = []) : ScheduleLaw s := by
  have hnil : ∀ a, s.firePositions a = [] := fun a => by rw [firePositions_eq, h]; rfl
  refine ⟨fun a => ?_, fun a => ?_, fun a f hf => ?_⟩
  · rw [hnil a]
    exact .nil
  · rw [hnil a]
    exact .nil
  · rw [hnil a] at hf
    cases hf

/-- The fire of an arm keeps the law: what stays on its schedule lies ARM_GAP from P, R92. -/
theorem ScheduleLaw.fired {s : State} (h : ScheduleLaw s) (a : Arm) : ScheduleLaw (fireArm a s) := by
  have hgap : (fireArm a s).params = s.params := (Act.fired a s).steady.params
  rcases fireArm_spec a s with heq | ⟨m₁, m₂, hslate, hslate', -, harms⟩
  · rw [heq]
    exact h
  have hslack : (fireArm a s).slate.Sublist s.slate := by
    rw [hslate, hslate']
    exact (List.sublist_cons_self _ _).append_left m₁
  have hsub : ∀ b, ((fireArm a s).firePositions b).Sublist (s.firePositions b) := fun b => by
    rw [firePositions_eq, firePositions_eq]
    exact (hslack.filter _).map _
  refine ⟨fun b => (h.once b).sublist (hsub b), fun b => ?_, fun b f hf l hl => ?_⟩
  · rw [hgap]
    exact (h.apart b).sublist (hsub b)
  rw [hgap]
  rw [harms, PerArm.get_set] at hl
  split at hl
  · rename_i hb
    subst hb
    obtain rfl : s.p = l := Option.some.inj hl
    have hold : s.firePositions b =
        (m₁.filter fun x => x.1 == some b).map Prod.snd ++
          s.p :: (m₂.filter fun x => x.1 == some b).map Prod.snd := by
      simp [firePositions_eq, hslate]
    have hnew : (fireArm b s).firePositions b =
        (m₁.filter fun x => x.1 == some b).map Prod.snd ++
          (m₂.filter fun x => x.1 == some b).map Prod.snd := by
      simp [firePositions_eq, hslate']
    have hapart := h.apart b
    rw [hold, List.pairwise_append, List.pairwise_cons] at hapart
    obtain ⟨-, ⟨hbehind, -⟩, hcross⟩ := hapart
    rw [hnew] at hf
    rcases List.mem_append.mp hf with hf | hf
    · exact (hcross f hf s.p List.mem_cons_self).right
    · exact (hbehind f hf).left
  · exact h.after b f ((hsub b).subset hf) l hl

/-- A fire position that passes the spacing test joins a schedule, R78. -/
theorem ScheduleLaw.joined {s t : State} {a : Arm} {f : Pos} (h : ScheduleLaw s)
    (hpos : 1 ≤ s.params.armGap) (haimed : Aimed a f s t)
    (hgap : t.params.armGap = s.params.armGap) : ScheduleLaw t := by
  have hpositions : ∀ b, t.firePositions b = s.firePositions b ++ if b = a then [f] else [] := by
    intro b
    rw [firePositions_eq, firePositions_eq, haimed.slate]
    by_cases hb : b = a
    · subst hb
      simp
    · simp [hb, Ne.symm hb]
  have hspaced := haimed.spaced
  simp only [State.spaced, Bool.and_eq_true, List.all_eq_true, decide_eq_true_eq] at hspaced
  obtain ⟨hfar, hlast⟩ := hspaced
  have hfar' : ∀ g ∈ s.firePositions a,
      s.params.armGap ≤ (f - g).toNat ∧ s.params.armGap ≤ (g - f).toNat := by
    intro g hg
    have hle := hfar g hg
    rw [nearer, ahead, ahead] at hle
    omega
  refine ⟨fun b => ?_, fun b => ?_, fun b x hx l hl => ?_⟩
  · rw [hpositions]
    split
    · rename_i hb
      subst hb
      refine List.nodup_append.mpr ⟨h.once b, List.pairwise_singleton _ f, fun g hg x hx heq => ?_⟩
      obtain rfl := List.mem_singleton.mp hx
      subst heq
      have hle := (hfar' g hg).left
      simp at hle
      omega
    · rw [List.append_nil]
      exact h.once b
  · rw [hpositions, hgap]
    split
    · rename_i hb
      subst hb
      refine List.pairwise_append.mpr ⟨h.apart b, List.pairwise_singleton _ _, fun g hg x hx => ?_⟩
      rw [List.mem_singleton.mp hx]
      exact hfar' g hg
    · rw [List.append_nil]
      exact h.apart b
  · rw [hgap]
    rw [haimed.arms] at hl
    rw [hpositions] at hx
    rcases List.mem_append.mp hx with hold | hnew
    · exact h.after b x hold l hl
    · split at hnew
      · rename_i hb
        subst hb
        rw [List.mem_singleton.mp hnew]
        rw [hl] at hlast
        exact of_decide_eq_true hlast
      · cases hnew

/-- The laws that the schedules rest on. -/
structure Timed (s : State) : Prop where
  params : ParamsLaw s
  arms : ArmsLaw s
  schedule : ScheduleLaw s

theorem ScheduleLaw.act {s t : State} (hact : Act s t) (hparams : ParamsLaw s) (h : ScheduleLaw s) :
    ScheduleLaw t := by
  have hgap : t.params.armGap = s.params.armGap := by rw [hact.steady.params]
  have hpos : 1 ≤ s.params.armGap := Nat.le_trans hparams.armDwell.left hparams.armDwell.right.right
  rcases hact.schedules with ⟨hslack, -⟩ | ⟨a, rfl⟩ | ⟨a, f, haimed⟩ | ⟨rfl, -⟩ | rfl
  · exact h.of_slack hslack hgap
  · exact h.fired a
  · exact h.joined hpos haimed hgap
  · exact h.of_slack (.of_queue rfl (.refl _)) rfl
  · exact h.of_slack (clearArmsLive_spec s).left hgap

theorem ScheduleLaw.works {s t : State} (hworks : Works s t) (hparams : ParamsLaw s)
    (h : ScheduleLaw s) : ScheduleLaw t := by
  refine (keeps_of_run (P := fun u => ParamsLaw u ∧ ScheduleLaw u) (fun u v hwork hu => ?_) hworks
    ⟨hparams, h⟩).right
  obtain ⟨hp, hu⟩ := hu
  refine ⟨hp.of_eq hwork.firm.params hwork.firm.phase, ?_⟩
  cases hwork
  case touched => exact hu.of_slack (.of_queue rfl (.refl _)) rfl
  case deed hdeed =>
    have hgap : v.params.armGap = u.params.armGap := by rw [hdeed.firm.params]
    cases hdeed
    case act hact => exact hu.act hact hp
    case cleared => exact hu.of_slack (clearLists_slack u) hgap
    all_goals exact hu.of_slack (.of_divert rfl) rfl

theorem armGap_of_free {q : Param} (h : q.lockClass = .free) (v : Nat) (s : State) :
    (stored q v s).params.armGap = s.params.armGap := by
  cases q <;> cases h <;> rfl

theorem ScheduleLaw.move {s t : State} (hmove : Move s t) (htimed : Timed s) : ScheduleLaw t := by
  have h := htimed.schedule
  cases hmove
  case turn hturn => exact h.works hturn.works htimed.params
  case pinned hturns _ =>
    exact ScheduleLaw.works (s := s.onPins _) hturns.works (htimed.params.of_eq rfl rfl)
      (h.of_slack (.of_divert rfl) rfl)
  case stopped =>
    split
    · refine ScheduleLaw.of_slack (s := stopTaken true s) (h.of_slack (.of_divert rfl) rfl)
        (clearArmsLive_spec _).left ?_
      rw [(Act.disarmed (stopTaken true s)).steady.params]
    · exact h.of_slack (.of_divert rfl) rfl
  case counted =>
    refine h.of_slack ⟨fun a => .inl ?_, fun a => .inl ?_, .refl _⟩ rfl
    · simp [makeCount, markDue, ArmRec.markLapse]
    · simp [makeCount, markDue, ArmRec.markLapse]
  case written q v _ _ _ _ _ _ =>
    refine ScheduleLaw.works (Turns.works ‹_›) (htimed.params.stored q v) ?_
    rcases ‹q.lockClass = .free ∨ s.divert.armsLive = false› with hq | hoff
    · exact h.of_slack (.of_divert (stored_divert q _ s)) (armGap_of_free hq _ s)
    · refine scheduleLaw_of_empty ?_
      rw [State.slate, stored_divert]
      exact slate_eq_nil.mpr (htimed.arms.schedules hoff)
  all_goals exact h.of_slack (.of_divert rfl) rfl

theorem timed_lawful : Lawful Timed where
  pending l h := ⟨paramsLaw_lawful.pending l h.params, armsLaw_lawful.pending l h.arms,
    h.schedule.of_slack (.of_divert rfl) rfl⟩
  wire {s t} hr hwire h := by
    refine ⟨paramsLaw_lawful.wire hr hwire h.params, armsLaw_lawful.wire hr hwire h.arms, ?_⟩
    cases hwire
    case move hmove => exact .move hmove h
    case sent =>
      unfold frameSent
      split <;> exact h.schedule.of_slack (.of_divert rfl) rfl
    all_goals exact h.schedule.of_slack (.of_divert rfl) rfl
  held pins hr h := ⟨paramsLaw_lawful.held pins hr h.params, armsLaw_lawful.held pins hr h.arms,
    h.schedule.of_slack (.of_divert rfl) rfl⟩
  reset {s} k h := ⟨paramsLaw_lawful.reset k h.params, armsLaw_lawful.reset k h.arms,
    scheduleLaw_of_empty rfl⟩
  ended {s} straps hr h := ⟨paramsLaw_lawful.ended straps hr h.params,
    armsLaw_lawful.ended straps hr h.arms,
    h.schedule.of_slack (.of_divert (by simp [endReset])) (by simp [endReset])⟩

/-- Settles O55: the pause law and that of ARMS_LIVE each by themselves, and the schedules' law together with
the two laws it rests on. -/
theorem pauseAndArmsLawsAreKept : Obligations.PauseAndArmsLawsAreKept :=
  fun _ _ hstep => ⟨pauseLaw_lawful.step hstep, armsLaw_lawful.step hstep,
    fun hparams harms hschedule => (timed_lawful.step hstep ⟨hparams, harms, hschedule⟩).schedule⟩

end Sys2Proof.Machine
end

section
/-! PROOFS. The Order Book: what each operation of the book does to the slots, the pool, the queued list and the
binding; each keeps the law of the book. -/

namespace Sys2Proof.Machine

/-! ### The law of a book -/

/-- The law of the Order Book, of the book alone. -/
structure OrderBook.Sound (b : OrderBook) : Prop where
  slots : b.orders.Pairwise fun x y => x.slot < y.slot
  inTable : ∀ o ∈ b.orders, o.slot < 256
  numbers : b.orders.Pairwise fun x y => x.number ≠ y.number
  pool : b.freeLines + (b.orders.map fun o => o.lines.length).sum = 2048
  queuedOnce : b.queued.Nodup
  queuedAre : ∀ i, i ∈ b.queued ↔ ∃ o ∈ b.orders, o.slot = i ∧ o.state = .queued
  byDueWave : b.queued.Pairwise fun i j => b.dueWaveOf i ≤ b.dueWaveOf j
  bound : ∀ o ∈ b.orders, o.position = none ↔ (o.state = .staged ∨ o.state = .queued)
  positions : ∀ o ∈ b.orders, ∀ n p, o.position = some (n, p) → 1 ≤ p ∧ p ≤ 15
  once : b.orders.Pairwise fun x y => x.position = none ∨ x.position ≠ y.position

theorem bookLaw_iff {s : State} : BookLaw s ↔ s.book.Sound :=
  ⟨fun h => ⟨h.slots, h.inTable, h.numbers, h.pool, h.queuedOnce, h.queuedAre, h.byDueWave, h.bound,
      h.positions, h.once⟩,
    fun h => ⟨h.slots, h.inTable, h.numbers, h.pool, h.queuedOnce, h.queuedAre, h.byDueWave, h.bound,
      h.positions, h.once⟩⟩

/-- What no change of an order's accounts, state or binding touches. -/
structure Order.Same (o x : Order) : Prop where
  slot : x.slot = o.slot
  number : x.number = o.number
  dueWave : x.dueWave = o.dueWave
  length : x.lines.length = o.lines.length

/-- The states of an order that has been bound, R8. -/
def OrderState.past : OrderState → Bool
  | .staged | .queued => false
  | _ => true

theorem OrderState.past_iff {st : OrderState} : st.past = true ↔ ¬ (st = .staged ∨ st = .queued) := by
  cases st <;> simp [OrderState.past]

/-- A change that leaves an order where it is in the book. -/
structure Order.Akin (o x : Order) : Prop extends o.Same x where
  position : x.position = o.position
  state : x.state = o.state ∨ (o.state.past = true ∧ x.state.past = true)

theorem Order.Akin.staged_or_queued {o x : Order} (h : o.Akin x) :
    (x.state = .staged ∨ x.state = .queued) ↔ (o.state = .staged ∨ o.state = .queued) := by
  rcases h.state with heq | ⟨ho, hx⟩
  · rw [heq]
  · exact iff_of_false (OrderState.past_iff.mp hx) (OrderState.past_iff.mp ho)

theorem Order.Akin.queued_iff {o x : Order} (h : o.Akin x) :
    x.state = .queued ↔ o.state = .queued := by
  rcases h.state with heq | ⟨ho, hx⟩
  · rw [heq]
  · exact iff_of_false (fun he => OrderState.past_iff.mp hx (.inr he))
      (fun he => OrderState.past_iff.mp ho (.inr he))

namespace OrderBook

/-- The slots stand in ascending order, none twice. -/
abbrev Slotted (b : OrderBook) : Prop := b.orders.Pairwise fun x y => x.slot < y.slot

theorem eq_of_slot_eq {b : OrderBook} (h : b.Slotted) {o x : Order} (ho : o ∈ b.orders)
    (hx : x ∈ b.orders) (hslot : o.slot = x.slot) : o = x :=
  eq_of_pairwise_lt h ho hx hslot

theorem atSlot_mem {b : OrderBook} {k : Nat} {o : Order} (h : b.atSlot k = some o) :
    o ∈ b.orders ∧ o.slot = k :=
  ⟨List.mem_of_find?_eq_some h, by simpa using List.find?_some h⟩

theorem atSlot_eq_none {b : OrderBook} {k : Nat} :
    b.atSlot k = none ↔ ∀ o ∈ b.orders, o.slot ≠ k := by
  rw [atSlot, List.find?_eq_none]
  simp

theorem atSlot_eq_some {b : OrderBook} (h : b.Slotted) {k : Nat} {o : Order} :
    b.atSlot k = some o ↔ o ∈ b.orders ∧ o.slot = k := by
  refine ⟨atSlot_mem, fun ⟨ho, hslot⟩ => ?_⟩
  rcases hfind : b.atSlot k with _ | x
  · exact absurd hslot (atSlot_eq_none.mp hfind o ho)
  · obtain ⟨hx, hxslot⟩ := atSlot_mem hfind
    rw [eq_of_slot_eq h hx ho (hxslot.trans hslot.symm)]

theorem boundAt_eq_none {b : OrderBook} {n : Lane} {p : Nat} :
    b.boundAt n p = none ↔ ∀ o ∈ b.orders, o.position ≠ some (n, p) := by
  rw [boundAt, List.find?_eq_none]
  simp

theorem dueWaveOf_of_mem {b : OrderBook} (h : b.Slotted) {o : Order} (ho : o ∈ b.orders) :
    b.dueWaveOf o.slot = o.dueWave := by
  rw [dueWaveOf, (atSlot_eq_some h).mpr ⟨ho, rfl⟩]
  rfl

/-! ### A change of one order -/

theorem mem_change {b : OrderBook} {k : Nat} {f : Order → Order} {x : Order} :
    x ∈ (b.change k f).orders ↔ ∃ o ∈ b.orders, (if o.slot = k then f o else o) = x := List.mem_map

theorem slotted_map {b c : OrderBook} {g : Order → Order} (h : b.Slotted)
    (hg : ∀ o ∈ b.orders, (g o).slot = o.slot) (hc : c.orders = b.orders.map g) : c.Slotted := by
  rw [Slotted, hc, List.pairwise_map]
  refine h.imp_of_mem fun {x y} hx hy hlt => ?_
  rw [hg x hx, hg y hy]
  exact hlt

theorem atSlot_map {b c : OrderBook} {g : Order → Order} (hg : ∀ o ∈ b.orders, (g o).slot = o.slot)
    (hc : c.orders = b.orders.map g) (k : Nat) : c.atSlot k = (b.atSlot k).map g := by
  rw [atSlot, atSlot, hc, List.find?_map]
  refine congrArg _ (find?_congr_mem fun o ho => ?_)
  rw [Function.comp_apply, hg o ho]

theorem dueWaveOf_map {b c : OrderBook} {g : Order → Order} (hg : ∀ o ∈ b.orders, o.Same (g o))
    (hc : c.orders = b.orders.map g) (k : Nat) : c.dueWaveOf k = b.dueWaveOf k := by
  rw [dueWaveOf, dueWaveOf, atSlot_map (fun o ho => (hg o ho).slot) hc]
  rcases hk : b.atSlot k with _ | o
  · rfl
  · exact (hg o (atSlot_mem hk).left).dueWave

/-- A book whose orders are changed one by one: what is left to show of its law. -/
theorem Sound.of_map {b c : OrderBook} (h : b.Sound) {g : Order → Order}
    (hg : ∀ o ∈ b.orders, o.Same (g o)) (horders : c.orders = b.orders.map g)
    (hfree : c.freeLines = b.freeLines) (hnodup : c.queued.Nodup)
    (hqueued : ∀ i, i ∈ c.queued ↔ ∃ o ∈ b.orders, o.slot = i ∧ (g o).state = .queued)
    (hdue : c.queued.Pairwise fun i j => b.dueWaveOf i ≤ b.dueWaveOf j)
    (hbound : ∀ o ∈ b.orders, (g o).position = none ↔
      ((g o).state = .staged ∨ (g o).state = .queued))
    (hpositions : ∀ o ∈ b.orders, ∀ n p, (g o).position = some (n, p) → 1 ≤ p ∧ p ≤ 15)
    (honce : b.orders.Pairwise fun x y => (g x).position = none ∨ (g x).position ≠ (g y).position) :
    c.Sound where
  slots := slotted_map h.slots (fun o ho => (hg o ho).slot) horders
  inTable x hx := by
    obtain ⟨o, ho, rfl⟩ := List.mem_map.mp (horders ▸ hx)
    rw [(hg o ho).slot]
    exact h.inTable o ho
  numbers := by
    rw [horders, List.pairwise_map]
    refine h.numbers.imp_of_mem fun {x y} hx hy hne => ?_
    rw [(hg x hx).number, (hg y hy).number]
    exact hne
  pool := by
    have hlengths : (b.orders.map g).map (fun o => o.lines.length) =
        b.orders.map fun o => o.lines.length := by
      rw [List.map_map]
      exact List.map_congr_left fun o ho => (hg o ho).length
    rw [hfree, horders, hlengths]
    exact h.pool
  queuedOnce := hnodup
  queuedAre i := by
    rw [hqueued, horders, exists_mem_map]
    exact exists_congr fun o => and_congr_right fun ho => by rw [(hg o ho).slot]
  byDueWave := by
    simp only [dueWaveOf_map hg horders]
    exact hdue
  bound x hx := by
    obtain ⟨o, ho, rfl⟩ := List.mem_map.mp (horders ▸ hx)
    exact hbound o ho
  positions x hx := by
    obtain ⟨o, ho, rfl⟩ := List.mem_map.mp (horders ▸ hx)
    exact hpositions o ho
  once := by
    rw [horders, List.pairwise_map]
    exact honce

/-- A change that leaves every order where it is in the book. -/
theorem Sound.of_akin {b c : OrderBook} (h : b.Sound) {g : Order → Order}
    (hg : ∀ o ∈ b.orders, o.Akin (g o)) (horders : c.orders = b.orders.map g)
    (hfree : c.freeLines = b.freeLines) (hqueued : c.queued = b.queued) : c.Sound := by
  refine h.of_map (fun o ho => (hg o ho).toSame) horders hfree (hqueued ▸ h.queuedOnce)
    (fun i => ?_) (hqueued ▸ h.byDueWave) (fun o ho => ?_) (fun o ho => ?_) ?_
  · rw [hqueued, h.queuedAre]
    exact exists_congr fun o => and_congr_right fun ho => by rw [(hg o ho).queued_iff]
  · rw [(hg o ho).position, (hg o ho).staged_or_queued]
    exact h.bound o ho
  · rw [(hg o ho).position]
    exact h.positions o ho
  · refine h.once.imp_of_mem fun {x y} hx hy hne => ?_
    rw [(hg x hx).position, (hg y hy).position]
    exact hne

theorem Sound.change {b : OrderBook} (h : b.Sound) (k : Nat) {f : Order → Order}
    (hf : ∀ o ∈ b.orders, o.slot = k → o.Akin (f o)) : (b.change k f).Sound := by
  refine h.of_akin (g := fun o => if o.slot = k then f o else o) (fun o ho => ?_) rfl rfl rfl
  split
  · exact hf o ho ‹_›
  · exact ⟨⟨rfl, rfl, rfl, rfl⟩, rfl, .inl rfl⟩

/-! ### The queued list -/

/-- A value joins a list in ascending order behind the values that are not greater. -/
theorem pairwise_join {α : Type} {d : α → Nat} {l : List α} {x : α}
    (h : l.Pairwise fun i j => d i ≤ d j) :
    (l.takeWhile (fun i => d i ≤ d x) ++ x :: l.dropWhile (fun i => d i ≤ d x)).Pairwise
      fun i j => d i ≤ d j := by
  have hbefore : ∀ i ∈ l.takeWhile (fun i => d i ≤ d x), d i ≤ d x := fun i hi => by
    simpa using List.all_eq_true.mp List.all_takeWhile _ hi
  have hafter : ∀ j ∈ l.dropWhile (fun i => d i ≤ d x), d x ≤ d j := by
    intro j hj
    have hsorted := h.sublist (List.dropWhile_sublist (fun i => decide (d i ≤ d x)))
    rcases hdrop : l.dropWhile (fun i => d i ≤ d x) with _ | ⟨y, rest⟩
    · rw [hdrop] at hj
      cases hj
    · have hy : ¬ d y ≤ d x := by
        have hhead := List.head_dropWhile_not (fun i => decide (d i ≤ d x)) (l := l)
          (by rw [hdrop]; exact List.cons_ne_nil _ _)
        simpa [hdrop] using hhead
      rw [hdrop] at hj hsorted
      rcases List.mem_cons.mp hj with rfl | hj
      · exact Nat.le_of_not_le hy
      · exact Nat.le_trans (Nat.le_of_not_le hy) ((List.pairwise_cons.mp hsorted).left j hj)
  refine List.pairwise_append.mpr ⟨h.sublist (List.takeWhile_sublist _),
    List.pairwise_cons.mpr ⟨hafter, h.sublist (List.dropWhile_sublist _)⟩, fun i hi j hj => ?_⟩
  rcases List.mem_cons.mp hj with rfl | hj
  · exact hbefore i hi
  · exact Nat.le_trans (hbefore i hi) (hafter j hj)

theorem joinQueue_perm (b : OrderBook) (slot due : Nat) :
    (joinQueue b slot due).Perm (slot :: b.queued) := by
  rw [joinQueue]
  refine List.perm_middle.trans ?_
  rw [List.takeWhile_append_dropWhile]

/-- A STAGED order becomes QUEUED and joins the queued list, R6. -/
theorem Sound.enqueue {b : OrderBook} (h : b.Sound) {o : Order} (ho : o ∈ b.orders)
    (hstate : o.state = .staged) : (b.enqueue o).Sound := by
  have hother : ∀ x ∈ b.orders, x.slot = o.slot → x = o := fun x hx hslot =>
    eq_of_slot_eq h.slots hx ho hslot
  have hnot : o.slot ∉ b.queued := fun hmem => by
    obtain ⟨x, hx, hslot, hq⟩ := (h.queuedAre _).mp hmem
    rw [hother x hx hslot, hstate] at hq
    cases hq
  have hperm := joinQueue_perm b o.slot o.dueWave
  refine h.of_map (g := fun x => if x.slot = o.slot then { x with state := .queued } else x)
    (fun x hx => ?_) rfl rfl (hperm.nodup_iff.mpr (List.nodup_cons.mpr ⟨hnot, h.queuedOnce⟩))
    (fun i => ?_) ?_ (fun x hx => ?_) (fun x hx => ?_) ?_
  · split <;> exact ⟨rfl, rfl, rfl, rfl⟩
  · rw [OrderBook.enqueue, hperm.mem_iff, List.mem_cons, h.queuedAre]
    constructor
    · rintro (rfl | ⟨x, hx, hslot, hq⟩)
      · exact ⟨o, ho, rfl, by rw [if_pos rfl]⟩
      · refine ⟨x, hx, hslot, ?_⟩
        split
        · rfl
        · exact hq
    · rintro ⟨x, hx, hslot, hq⟩
      split at hq
      · rename_i heq
        exact .inl (hslot.symm.trans heq)
      · exact .inr ⟨x, hx, hslot, hq⟩
  · rw [OrderBook.enqueue, joinQueue, ← dueWaveOf_of_mem h.slots ho]
    exact pairwise_join h.byDueWave
  · split
    · rename_i hslot
      rw [hother x hx hslot, (h.bound o ho).mpr (.inl hstate)]
      simp
    · exact h.bound x hx
  · split <;> exact h.positions x hx
  · refine h.once.imp fun {x y} hne => ?_
    split <;> split <;> exact hne

/-! ### The binder -/

/-- A QUEUED order is bound to a free position, R7. -/
theorem Sound.bind {b : OrderBook} (h : b.Sound) (k : Nat) {n : Lane} {p : Nat}
    (hfree : b.boundAt n p = none) (hp : 1 ≤ p ∧ p ≤ 15) : (b.bind k n p).Sound := by
  have hnone := boundAt_eq_none.mp hfree
  refine h.of_map (g := fun x => if x.slot = k then
      { x with state := .opened, position := some (n, p) } else x)
    (fun x hx => ?_) rfl rfl (h.queuedOnce.filter _) (fun i => ?_)
    (h.byDueWave.sublist List.filter_sublist) (fun x hx => ?_) (fun x hx m r => ?_) ?_
  · split <;> exact ⟨rfl, rfl, rfl, rfl⟩
  · simp only [OrderBook.bind, List.mem_filter, bne_iff_ne, h.queuedAre]
    constructor
    · rintro ⟨⟨x, hx, hslot, hq⟩, hne⟩
      exact ⟨x, hx, hslot, by rw [if_neg (hslot ▸ hne)]; exact hq⟩
    · rintro ⟨x, hx, hslot, hq⟩
      split at hq
      · cases hq
      · rename_i hne
        exact ⟨⟨x, hx, hslot, hq⟩, hslot ▸ hne⟩
  · split
    · simp
    · exact h.bound x hx
  · split
    · intro heq
      cases heq
      exact hp
    · exact h.positions x hx m r
  · refine (h.slots.and h.once).imp_of_mem fun {x y} hx hy hxy => ?_
    obtain ⟨hlt, hne⟩ := hxy
    split <;> split
    · omega
    · exact .inr (hnone y hy).symm
    · exact .inr (hnone x hx)
    · exact hne

theorem firstOfClasses_spec {b : OrderBook} {mask : Mask} {k : Nat}
    (h : b.firstOfClasses mask = some k) :
    k ∈ b.queued ∧ ∃ o, b.atSlot k = some o ∧ mask.getLsbD o.cls = true := by
  refine ⟨List.mem_of_find?_eq_some h, ?_⟩
  have htest := List.find?_some h
  rcases hk : b.atSlot k with _ | o
  · simp [hk] at htest
  · exact ⟨o, rfl, by simpa [hk] using htest⟩

/-- What the binder does at one position, R7. -/
theorem bindStep_cases (enabled : Lane → Bool) (classes : Lane → Mask) (b : OrderBook) (n : Lane)
    (p : Nat) :
    bindStep enabled classes b (n, p) = b ∨ ∃ k, enabled n = true ∧ b.boundAt n p = none ∧
      b.firstOfClasses (classes n) = some k ∧ bindStep enabled classes b (n, p) = b.bind k n p := by
  unfold bindStep
  split
  · rename_i h
    split
    · exact .inl rfl
    · rename_i k hk
      exact .inr ⟨k, h.left, Option.isNone_iff_eq_none.mp h.right, hk, rfl⟩
  · exact .inl rfl

theorem mem_hamperPositions {n : Lane} {p : Nat} :
    (n, p) ∈ hamperPositions ↔ 1 ≤ p ∧ p ≤ 15 := by
  simp only [hamperPositions, List.mem_flatMap, List.mem_map, List.mem_range, Prod.mk.injEq,
    Config.hamperPositions]
  constructor
  · rintro ⟨m, -, i, hi, rfl, rfl⟩
    omega
  · rintro ⟨h1, h2⟩
    exact ⟨n, mem_allLanes n, p - 1, by omega, rfl, by omega⟩

theorem Sound.binder {b : OrderBook} (h : b.Sound) (enabled : Lane → Bool) (classes : Lane → Mask)
    {l : List (Lane × Nat)} (hl : ∀ x ∈ l, x ∈ hamperPositions) :
    (l.foldl (bindStep enabled classes) b).Sound := by
  induction l generalizing b with
  | nil => exact h
  | cons x l ih =>
    obtain ⟨n, p⟩ := x
    refine ih ?_ fun y hy => hl y (List.mem_cons_of_mem _ hy)
    rcases bindStep_cases enabled classes b n p with heq | ⟨k, -, hfree, -, heq⟩ <;> rw [heq]
    · exact h
    · exact h.bind k hfree
        (mem_hamperPositions.mp (hl _ List.mem_cons_self))

/-! ### Promotion -/

theorem Sound.promoted {b : OrderBook} (h : b.Sound) {l : List Order} (hl : ∀ o ∈ l, o ∈ b.orders)
    (hstaged : ∀ o ∈ l, o.state = .staged) (hslots : l.Pairwise fun x y => x.slot < y.slot) :
    (l.foldl OrderBook.enqueue b).Sound := by
  induction l generalizing b with
  | nil => exact h
  | cons o l ih =>
    obtain ⟨hfirst, hrest⟩ := List.pairwise_cons.mp hslots
    refine ih (h.enqueue (hl o List.mem_cons_self) (hstaged o List.mem_cons_self))
      (fun x hx => ?_) (fun x hx => hstaged x (List.mem_cons_of_mem _ hx)) hrest
    refine mem_change.mpr ⟨x, hl x (List.mem_cons_of_mem _ hx), if_neg ?_⟩
    exact Nat.ne_of_gt (hfirst x hx)

/-! ### Entering and emptying a slot -/

theorem enter_perm (b : OrderBook) (o : Order) : (b.enter o).orders.Perm (o :: b.orders) := by
  rw [enter]
  refine List.perm_middle.trans ?_
  rw [List.takeWhile_append_dropWhile]

theorem slotted_enter {b : OrderBook} (h : b.Slotted) {o : Order}
    (halone : ∀ x ∈ b.orders, x.slot ≠ o.slot) : (b.enter o).Slotted := by
  have hbefore : ∀ x ∈ b.orders.takeWhile (fun x => x.slot < o.slot), x.slot < o.slot := fun x hx => by
    simpa using List.all_eq_true.mp List.all_takeWhile _ hx
  have hafter : ∀ y ∈ b.orders.dropWhile (fun x => x.slot < o.slot), o.slot < y.slot := by
    intro y hy
    have hsorted := h.sublist (List.dropWhile_sublist (fun x => decide (x.slot < o.slot)))
    rcases hdrop : b.orders.dropWhile (fun x => x.slot < o.slot) with _ | ⟨z, rest⟩
    · rw [hdrop] at hy
      cases hy
    · have hz : o.slot < z.slot := by
        have hhead := List.head_dropWhile_not (fun x : Order => decide (x.slot < o.slot))
          (l := b.orders) (by rw [hdrop]; exact List.cons_ne_nil _ _)
        have hmem : z ∈ b.orders :=
          (List.dropWhile_sublist _).subset (hdrop ▸ List.mem_cons_self)
        have hle : ¬ z.slot < o.slot := by simpa [hdrop] using hhead
        have hne := halone z hmem
        omega
      rw [hdrop] at hy hsorted
      rcases List.mem_cons.mp hy with rfl | hy
      · exact hz
      · exact Nat.lt_trans hz ((List.pairwise_cons.mp hsorted).left y hy)
  refine List.pairwise_append.mpr ⟨h.sublist (List.takeWhile_sublist _),
    List.pairwise_cons.mpr ⟨hafter, h.sublist (List.dropWhile_sublist _)⟩, fun x hx y hy => ?_⟩
  rcases List.mem_cons.mp hy with rfl | hy
  · exact hbefore x hx
  · exact Nat.lt_trans (hbefore x hx) (hafter y hy)

theorem Sound.enter {s : State} (h : s.book.Sound) {o : Order} (ho : o.Fresh s) :
    (s.book.enter o).Sound := by
  have hperm := enter_perm s.book o
  have hslots := slotted_enter h.slots ho.alone
  have hdue : ∀ i ∈ s.book.queued, (s.book.enter o).dueWaveOf i = s.book.dueWaveOf i := by
    intro i hi
    obtain ⟨x, hx, rfl, -⟩ := (h.queuedAre i).mp hi
    rw [dueWaveOf_of_mem hslots (mem_enter.mpr (.inr hx)), dueWaveOf_of_mem h.slots hx]
  refine ⟨hslots, fun x hx => ?_, ?_, ?_, h.queuedOnce, fun i => ?_, ?_, fun x hx => ?_,
    fun x hx => ?_, ?_⟩
  · rcases mem_enter.mp hx with rfl | hx
    · exact ho.slot
    · exact h.inTable x hx
  · refine (hperm.pairwise_iff fun {x y} hne => hne.symm).mpr ?_
    exact List.pairwise_cons.mpr ⟨fun x hx => (ho.number x hx).symm, h.numbers⟩
  · have hpool := h.pool
    have hfits := ho.pool
    rw [(hperm.map fun x => x.lines.length).sum_nat]
    simp only [OrderBook.enter, List.map_cons, List.sum_cons]
    omega
  · refine (h.queuedAre i).trans ?_
    constructor
    · rintro ⟨x, hx, hslot, hq⟩
      exact ⟨x, mem_enter.mpr (.inr hx), hslot, hq⟩
    · rintro ⟨x, hx, hslot, hq⟩
      rcases mem_enter.mp hx with rfl | hx
      · rw [ho.state] at hq
        cases hq
      · exact ⟨x, hx, hslot, hq⟩
  · refine List.Pairwise.imp_of_mem (fun {i j} hi hj hle => ?_) h.byDueWave
    rw [hdue i hi, hdue j hj]
    exact hle
  · rcases mem_enter.mp hx with rfl | hx
    · simp [ho.position, ho.state]
    · exact h.bound x hx
  · rcases mem_enter.mp hx with rfl | hx
    · simp [ho.position]
    · exact h.positions x hx
  · refine (hperm.pairwise_iff fun {x y} hne => ?_).mpr ?_
    · rcases hne with hx | hne
      · rw [hx]
        rcases y.position with _ | q
        · exact .inl rfl
        · exact .inr nofun
      · exact .inr hne.symm
    · exact List.pairwise_cons.mpr ⟨fun _ _ => .inl ho.position, h.once⟩

theorem sum_map_of_mem {l : List Order} (h : l.Pairwise fun x y => x.slot < y.slot) {o : Order}
    (ho : o ∈ l) (f : Order → Nat) :
    (l.map f).sum = f o + ((l.filter fun x => x.slot != o.slot).map f).sum := by
  induction l with
  | nil => cases ho
  | cons x l ih =>
    obtain ⟨hfirst, hrest⟩ := List.pairwise_cons.mp h
    rcases List.mem_cons.mp ho with rfl | ho
    · have hall : l.filter (fun x => x.slot != o.slot) = l :=
        List.filter_eq_self.mpr fun y hy => bne_iff_ne.mpr (Nat.ne_of_gt (hfirst y hy))
      rw [List.filter_cons_of_neg (by simp), hall, List.map_cons, List.sum_cons]
    · have hne := hfirst o ho
      rw [List.filter_cons_of_pos (by simpa using Nat.ne_of_lt hne), List.map_cons, List.map_cons,
        List.sum_cons, List.sum_cons, ih hrest ho]
      omega

theorem mem_empty {b : OrderBook} {o x : Order} :
    x ∈ (b.empty o).orders ↔ x ∈ b.orders ∧ x.slot ≠ o.slot := by
  simp [empty]

/-- A slot becomes EMPTY, R2. -/
theorem Sound.empty {b : OrderBook} (h : b.Sound) {o : Order} (ho : o ∈ b.orders) :
    (b.empty o).Sound := by
  have hsub : (b.empty o).orders.Sublist b.orders := List.filter_sublist
  have hslots : (b.empty o).Slotted := h.slots.sublist hsub
  have hqueued : ∀ i, i ∈ (b.empty o).queued ↔ i ∈ b.queued ∧ i ≠ o.slot := fun i => by
    simp [OrderBook.empty]
  have hdue : ∀ i ∈ (b.empty o).queued, (b.empty o).dueWaveOf i = b.dueWaveOf i := by
    intro i hi
    obtain ⟨hmem, hne⟩ := (hqueued i).mp hi
    obtain ⟨x, hx, rfl, -⟩ := (h.queuedAre i).mp hmem
    rw [dueWaveOf_of_mem hslots (mem_empty.mpr ⟨hx, hne⟩), dueWaveOf_of_mem h.slots hx]
  refine ⟨hslots, fun x hx => h.inTable x (hsub.subset hx), h.numbers.sublist hsub, ?_,
    h.queuedOnce.filter _, fun i => ?_, ?_, fun x hx => h.bound x (hsub.subset hx),
    fun x hx => h.positions x (hsub.subset hx), h.once.sublist hsub⟩
  · have hpool := h.pool
    rw [sum_map_of_mem h.slots ho] at hpool
    simp only [OrderBook.empty]
    omega
  · rw [hqueued, h.queuedAre]
    constructor
    · rintro ⟨⟨x, hx, rfl, hq⟩, hne⟩
      exact ⟨x, mem_empty.mpr ⟨hx, hne⟩, rfl, hq⟩
    · rintro ⟨x, hx, rfl, hq⟩
      obtain ⟨hx, hne⟩ := mem_empty.mp hx
      exact ⟨⟨x, hx, rfl, hq⟩, hne⟩
  · refine List.Pairwise.imp_of_mem (fun {i j} hi hj hle => ?_)
      (h.byDueWave.sublist List.filter_sublist)
    rw [hdue i hi, hdue j hj]
    exact hle

end OrderBook
end Sys2Proof.Machine
end

section
/-! PROOFS. The law of the Order Book is kept by every step. -/

namespace Sys2Proof.Machine

/-- The complete-check completes only an OPEN or SHORTING order, R16. -/
theorem completeCheck_spec (slot : Nat) (s : State) :
    completeCheck slot s = s ∨ ∃ o short, s.book.atSlot slot = some o ∧
      (o.state = .opened ∧ o.filled = true ∧ short = false ∨
        o.state = .shorting ∧ o.reservations = 0 ∧ short = true) ∧
      completeCheck slot s = enterComplete o short s := by
  unfold completeCheck
  split
  · exact .inl rfl
  · rename_i o ho
    split
    · split
      · exact .inr ⟨o, false, ho, .inl ⟨‹_›, ‹_›, rfl⟩, rfl⟩
      · exact .inl rfl
    · split
      · exact .inr ⟨o, true, ho, .inr ⟨‹_›, ‹_›, rfl⟩, rfl⟩
      · exact .inl rfl
    · exact .inl rfl

theorem enterComplete_book (o : Order) (short : Bool) (s : State) :
    (enterComplete o short s).book =
      s.book.change o.slot fun x => { x with state := .complete, short := short } := by
  simp [enterComplete]

/-- A change of the state of an order that has been bound, to another such state. -/
theorem OrderBook.Sound.restate {b : OrderBook} (h : b.Sound) {o : Order} (ho : o ∈ b.orders)
    (hpast : o.state.past = true) {f : Order → Order} (hf : ∀ x : Order, x.Same (f x))
    (hposition : ∀ x, (f x).position = x.position) (hstate : ∀ x, (f x).state.past = true) :
    (b.change o.slot f).Sound := by
  refine h.change o.slot fun x hx hslot => ⟨hf x, hposition x, .inr ⟨?_, hstate x⟩⟩
  rw [OrderBook.eq_of_slot_eq h.slots hx ho hslot]
  exact hpast

theorem completeCheck_sound (slot : Nat) {s : State} (h : s.book.Sound) :
    (completeCheck slot s).book.Sound := by
  rcases completeCheck_spec slot s with heq | ⟨o, short, ho, hstate, heq⟩ <;> rw [heq]
  · exact h
  · rw [enterComplete_book]
    refine h.restate (OrderBook.atSlot_mem ho).left ?_ (fun _ => ⟨rfl, rfl, rfl, rfl⟩) (fun _ => rfl)
      fun _ => rfl
    rcases hstate with ⟨hs, -⟩ | ⟨hs, -⟩ <;> rw [hs] <;> rfl

theorem reserve_akin (o : Order) (line w l : Nat) : o.Akin (o.reserve line w l) :=
  ⟨⟨rfl, rfl, rfl, by simp [Order.reserve]⟩, rfl, .inl rfl⟩

theorem release_akin (o : Order) (line w l : Nat) : o.Akin (o.release line w l) :=
  ⟨⟨rfl, rfl, rfl, by simp [Order.release]⟩, rfl, .inl rfl⟩

theorem confirm_akin (o : Order) (line w l : Nat) : o.Akin (o.confirm line w l) :=
  ⟨⟨rfl, rfl, rfl, by simp [Order.confirm]⟩, rfl, .inl rfl⟩

theorem release_sound (slot line w l : Nat) {s : State} (h : s.book.Sound) :
    (release slot line w l s).book.Sound :=
  completeCheck_sound slot (h.change slot fun o _ _ => release_akin o line w l)

theorem confirm_sound (slot line w l : Nat) {s : State} (h : s.book.Sound) :
    (confirm slot line w l s).book.Sound :=
  completeCheck_sound slot (h.change slot fun o _ _ => confirm_akin o line w l)

theorem releaseEntry_sound (e : Entry) {s : State} (h : s.book.Sound) :
    (releaseEntry e s).book.Sound := by
  unfold releaseEntry
  split
  · exact release_sound _ _ _ _ h
  · exact h

theorem releaseChute_sound (e : ChuteEntry) {s : State} (h : s.book.Sound) :
    (releaseChute e s).book.Sound := by
  unfold releaseChute
  split
  · exact release_sound _ _ _ _ h
  · exact h

theorem foldl_keeps {α : Type} {P : State → Prop} {f : State → α → State}
    (hf : ∀ s a, P s → P (f s a)) (l : List α) {s : State} (h : P s) : P (l.foldl f s) :=
  Telling.foldl hf l h

theorem releases_sound (l : List Entry) {s : State} (h : s.book.Sound) :
    (l.foldl (fun t e => releaseEntry e t) s).book.Sound :=
  foldl_keeps (P := fun t => t.book.Sound) (fun _ e ht => releaseEntry_sound e ht) l h

theorem chuteReleases_sound (l : List ChuteEntry) {s : State} (h : s.book.Sound) :
    (l.foldl (fun t e => releaseChute e t) s).book.Sound :=
  foldl_keeps (P := fun t => t.book.Sound) (fun _ e ht => releaseChute_sound e ht) l h

theorem runBinder_sound {s : State} (h : s.book.Sound) : (runBinder s).book.Sound :=
  h.binder _ _ fun _ hx => hx

theorem mem_staged {b : OrderBook} {o : Order} :
    o ∈ b.staged ↔ o ∈ b.orders ∧ o.state = .staged := by
  simp [OrderBook.staged]

theorem promote_sound {s : State} (h : s.book.Sound) : (promote s).book.Sound := by
  unfold promote
  split
  · exact h
  · exact runBinder_sound (h.promoted (fun o ho => (mem_staged.mp ho).left)
      (fun o ho => (mem_staged.mp ho).right) (h.slots.sublist List.filter_sublist))

theorem Act.sound {s t : State} (hact : Act s t) (h : s.book.Sound) : t.book.Sound := by
  have hsame : ∀ {u : State}, u.book = s.book → u.book.Sound := fun hu => hu ▸ h
  have hpast : ∀ {st : OrderState}, st = .opened ∨ st = .shorting → st.past = true := by
    rintro _ (rfl | rfl) <;> rfl
  cases hact
  case told | counted | marked => exact hsame (by simp)
  case lightSent =>
    unfold Machine.lightSent
    split
    · exact h
    · exact hsame (by simp)
  case jammed a _ => cases a <;> exact h
  case gaveUp p reason _ => exact releases_sound _ h
  case fired a =>
    rcases fireArm_cases a s with heq | ⟨-, heq⟩ <;> rw [heq] <;> exact h
  case dwellEnded a =>
    rcases endDwell_cases a s with heq | heq <;> rw [heq] <;> exact h
  case lapsed a =>
    rcases lapseLastFire_cases a s with heq | heq <;> rw [heq] <;> exact h
  case missed tag =>
    rcases missEntry_cases tag s with heq | ⟨e, -, heq⟩ <;> rw [heq]
    · exact h
    · exact releaseEntry_sound e (hsame (by simp [missedState, changeEntry]))
  case confirmed a _ _ => cases a <;> exact h
  case placed => exact h.change _ fun o _ _ => reserve_akin o _ _ _
  case put => exact confirm_sound _ _ _ _ h
  case bound => exact runBinder_sound h
  case promoted => exact promote_sound h
  case emptied ho _ => exact h.empty ‹_›
  case entered ho => exact h.enter ho
  case enqueued => exact h.enqueue ‹_› ‹_›
  case closed o _ _ _ =>
    have hs : o.state = .opened := ‹_›
    exact h.restate ‹_› (hpast (.inl hs)) (fun _ => ⟨rfl, rfl, rfl, rfl⟩) (fun _ => rfl) fun _ => rfl
  case shorted o _ _ =>
    have hs : o.state = .opened := ‹_›
    exact h.restate ‹_› (hpast (.inl hs)) (fun _ => ⟨rfl, rfl, rfl, rfl⟩) (fun _ => rfl) fun _ => rfl
  case cancelled o _ _ =>
    refine chuteReleases_sound _ (releases_sound _ ?_)
    exact h.restate ‹_› (hpast ‹_›) (fun _ => ⟨rfl, rfl, rfl, rfl⟩) (fun _ => rfl) fun _ => rfl
  case disarmed => exact releases_sound _ h
  all_goals exact h

theorem Works.sound {s t : State} (hworks : Works s t) (h : s.book.Sound) : t.book.Sound := by
  refine keeps_of_run (P := fun u => u.book.Sound) (fun _ _ hwork hu => ?_) hworks h
  cases hwork
  case touched => exact hu
  case deed hdeed =>
    cases hdeed
    case act hact => exact hact.sound hu
    case cleared => exact chuteReleases_sound _ (releases_sound _ hu)
    all_goals exact hu

theorem Move.sound {s t : State} (hmove : Move s t) (h : s.book.Sound) : t.book.Sound := by
  cases hmove
  case turn hturn => exact hturn.works.sound h
  case pinned hturns _ => exact hturns.works.sound h
  case stopped =>
    split
    · exact releases_sound _ h
    · exact h
  case written q v _ _ _ _ _ _ =>
    refine Works.sound (Turns.works ‹_›) ?_
    cases q <;> exact h
  all_goals exact h

theorem bookReset_sound : OrderBook.reset.Sound := by
  refine ⟨.nil, nofun, .nil, rfl, List.nodup_nil, fun i => ⟨nofun, ?_⟩, .nil, nofun, nofun, .nil⟩
  rintro ⟨o, ho, -⟩
  cases ho

theorem bookLaw_lawful : Lawful BookLaw where
  pending _ h := by
    have hsound := bookLaw_iff.mp h
    exact bookLaw_iff.mpr hsound
  wire {s t} _ hwire h := by
    have hsound := bookLaw_iff.mp h
    refine bookLaw_iff.mpr ?_
    cases hwire
    case move hmove => exact hmove.sound hsound
    case sent =>
      unfold frameSent
      split <;> exact hsound
    all_goals exact hsound
  held _ _ h := by
    have hsound := bookLaw_iff.mp h
    exact bookLaw_iff.mpr hsound
  reset _ _ := bookLaw_iff.mpr bookReset_sound
  ended _ _ h := bookLaw_iff.mpr (by simpa [endReset] using bookLaw_iff.mp h)

/-- Settles O58: every operation of the Order Book keeps its law, and nothing else touches the book. -/
theorem bookLawIsKept : Obligations.BookLawIsKept :=
  fun _ _ h hstep => bookLaw_lawful.step hstep h

end Sys2Proof.Machine
end

section
/-! PROOFS. The bounds of the chutes, of the capture list and the belt queue, and of the recirculation table are kept
by every step. -/

namespace Sys2Proof.Machine

/-! ### Counting along a list -/

theorem countP_map_le {α : Type} {q : α → Bool} {g : α → α} (h : ∀ x, q (g x) = true → q x = true)
    (l : List α) : (l.map g).countP q ≤ l.countP q := by
  rw [List.countP_map]
  exact List.countP_mono_left fun x _ => h x

theorem countP_changeFirst_le {α : Type} {p q : α → Bool} {g : α → α}
    (h : ∀ x, p x = true → q (g x) = true → q x = true) (l : List α) :
    (changeFirst p g l).countP q ≤ l.countP q := by
  rcases hany : l.any p with _ | _
  · exact Nat.le_of_eq (by rw [changeFirst_of_none g hany])
  · obtain ⟨l₁, x, l₂, rfl, hx, -, heq⟩ := changeFirst_split g hany
    rw [heq, List.countP_append, List.countP_append, List.countP_cons, List.countP_cons]
    have hle : (if q (g x) = true then 1 else 0) ≤ if q x = true then 1 else 0 := by
      split
      · exact Nat.le_of_eq (if_pos (h x hx ‹_›)).symm
      · exact Nat.zero_le _
    omega

theorem length_changeFirst {α : Type} (p : α → Bool) (g : α → α) (l : List α) :
    (changeFirst p g l).length = l.length := by
  induction l with
  | nil => rfl
  | cons x l ih =>
    rw [changeFirst]
    split
    · rfl
    · rw [List.length_cons, ih, List.length_cons]

/-- The first element that satisfies a test leaves a list. -/
theorem countP_eraseP_of_find {α : Type} {p : α → Bool} {e : α} {l : List α}
    (h : l.find? p = some e) (q : α → Bool) :
    l.countP q = (l.eraseP p).countP q + if q e = true then 1 else 0 := by
  obtain ⟨hpe, l₁, l₂, rfl, hnot⟩ := List.find?_eq_some_iff_append.mp h
  rw [List.eraseP_append_right _ (fun b hb => by simpa using hnot b hb),
    List.eraseP_cons_of_pos hpe, List.countP_append, List.countP_append, List.countP_cons]
  omega

/-! ### The chutes -/

/-- Whether an entry counts towards the committed count of a lane, R99. -/
def Entry.loads (n : Lane) (e : Entry) : Bool :=
  e.dest.arm == some (.lane n) && (e.isScheduled || e.isFired)

/-- Whether a chute entry counts towards the committed count of its lane, R99. -/
def ChuteEntry.loads (e : ChuteEntry) : Bool := e.kind != .stray

theorem committed_eq (s : State) (n : Lane) :
    s.committed n = (s.wall.chutes.get n).countP ChuteEntry.loads +
      s.divert.queue.countP (Entry.loads n) := by
  rw [List.countP_eq_length_filter, List.countP_eq_length_filter]
  rfl

theorem ChuteLaw.lighten {s t : State} (h : ChuteLaw s)
    (hload : ∀ n, (t.wall.chutes.get n).countP ChuteEntry.loads ≤
      (s.wall.chutes.get n).countP ChuteEntry.loads)
    (hsize : ∀ n, (t.wall.chutes.get n).length ≤ (s.wall.chutes.get n).length)
    (hqueue : ∀ n, t.divert.queue.countP (Entry.loads n) ≤ s.divert.queue.countP (Entry.loads n))
    (hcap : t.params.chuteCap = s.params.chuteCap) : ChuteLaw t where
  load n := by
    have hs := h.load n
    have hl := hload n
    have hq := hqueue n
    rw [committed_eq] at hs ⊢
    rw [hcap]
    omega
  size n := Nat.le_trans (hsize n) (h.size n)

theorem ChuteLaw.lighten_queue {s t : State} (h : ChuteLaw s)
    (hchutes : t.wall.chutes = s.wall.chutes)
    (hqueue : ∀ n, t.divert.queue.countP (Entry.loads n) ≤ s.divert.queue.countP (Entry.loads n))
    (hcap : t.params.chuteCap = s.params.chuteCap) : ChuteLaw t :=
  h.lighten (fun n => Nat.le_of_eq (by rw [hchutes])) (fun n => Nat.le_of_eq (by rw [hchutes])) hqueue hcap

theorem ChuteLaw.of_eq {s t : State} (h : ChuteLaw s) (hchutes : t.wall.chutes = s.wall.chutes)
    (hqueue : t.divert.queue = s.divert.queue) (hcap : t.params.chuteCap = s.params.chuteCap) :
    ChuteLaw t := h.lighten_queue hchutes (fun n => Nat.le_of_eq (by rw [hqueue])) hcap

theorem BookOnly.chuteLaw {s t : State} (hst : BookOnly s t) (h : ChuteLaw s) : ChuteLaw t := by
  obtain ⟨b, l, u, rfl⟩ := hst
  exact h.of_eq rfl rfl rfl

theorem loads_of_outbound {e : Entry} {r : OutboundReason} (n : Lane) (h : e.state = .outbound r) :
    e.loads n = false := by
  simp [Entry.loads, Entry.isScheduled, Entry.isFired, h]

theorem outbound_chuteLaw {s : State} (h : ChuteLaw s) (p : Entry → Bool) (reason : OutboundReason) :
    ChuteLaw (outbound p reason s) := by
  refine h.lighten_queue rfl (fun n => countP_map_le (fun e he => ?_) _) rfl
  split at he
  · rw [loads_of_outbound n rfl] at he
    cases he
  · exact he

theorem loads_cancelFor (slot : Nat) (n : Lane) (e : Entry) :
    (e.cancelFor slot).loads n = true → e.loads n = true := by
  unfold Entry.cancelFor
  split
  · rename_i hdest hstate
    split
    · simp [Entry.loads, Entry.isScheduled, Entry.isFired, hdest, Dest.arm, hstate]
    · exact id
  · split
    · intro h
      rw [loads_of_outbound n rfl] at h
      cases h
    · exact id
  · exact id

theorem chuteLoads_cancelFor (slot : Nat) (e : ChuteEntry) :
    (e.cancelFor slot).loads = true → e.loads = true := by
  unfold ChuteEntry.cancelFor
  split
  · rename_i hfor
    intro _
    unfold ChuteEntry.isFor at hfor
    split at hfor
    · rename_i hkind
      simp [ChuteEntry.loads, hkind]
    · cases hfor
  · exact id

theorem setChute_get (n m : Lane) (l : List ChuteEntry) (s : State) :
    (setChute n l s).wall.chutes.get m = if m = n then l else s.wall.chutes.get m := by
  simp [setChute]

/-- A chute list that only loses entries. -/
theorem setChute_chuteLaw {s : State} (h : ChuteLaw s) {n : Lane} {l : List ChuteEntry}
    (hl : l.Sublist (s.wall.chutes.get n)) : ChuteLaw (setChute n l s) := by
  refine h.lighten (fun m => ?_) (fun m => ?_) (fun _ => Nat.le_refl _) rfl
  all_goals
    rw [setChute_get]
    split
  · rename_i hm
    exact hm ▸ hl.countP_le
  · exact Nat.le_refl _
  · rename_i hm
    exact hm ▸ hl.length_le
  · exact Nat.le_refl _

theorem chuteEntry_loads (e : Entry) : e.chuteEntry.loads = true := by
  unfold ChuteEntry.loads Entry.chuteEntry
  dsimp only
  split <;> rfl

/-- An arrival adds one entry that loads the lane, R113. -/
theorem countP_arrive {e : ChuteEntry} (he : e.loads = true) (l : List ChuteEntry) :
    (arrive e l).countP ChuteEntry.loads = l.countP ChuteEntry.loads + 1 := by
  have hstray : (l.eraseP fun x => x.kind == .stray).countP ChuteEntry.loads =
      l.countP ChuteEntry.loads := by
    rcases hfind : l.find? (fun x => x.kind == .stray) with _ | x
    · rw [List.eraseP_of_forall_not (fun y hy => by simpa using List.find?_eq_none.mp hfind y hy)]
    · have hx : x.loads = false := by
        have hkind := List.find?_some hfind
        simpa [ChuteEntry.loads] using hkind
      rw [countP_eraseP_of_find hfind, hx]
      simp
  unfold arrive
  split <;> simp [List.countP_append, he, hstray]

/-- A list with room, or with a STRAY, does not grow past 16, R113. -/
theorem length_arrive_le {e : ChuteEntry} {l : List ChuteEntry} (hsize : l.length ≤ 16)
    (hload : l.countP ChuteEntry.loads < 16) : (arrive e l).length ≤ 16 := by
  unfold arrive
  split
  · rename_i hroom
    rw [List.length_append, List.length_singleton]
    exact hroom
  · have hsome : ∃ x ∈ l, (x.kind == .stray) = true := by
      refine Classical.byContradiction fun hnone => ?_
      simp only [not_exists, not_and, Bool.not_eq_true] at hnone
      have hall : l.countP ChuteEntry.loads = l.length :=
        List.countP_eq_length.mpr fun x hx => by simpa [ChuteEntry.loads] using hnone x hx
      simp only [Config.chuteList] at *
      omega
    obtain ⟨x, hx, hkind⟩ := hsome
    rw [List.length_append, List.length_singleton, List.length_eraseP_of_mem hx hkind]
    omega

/-- The oldest FIRED entry passes from the belt queue to its chute, R94, R113. -/
theorem passToChute_chuteLaw {s : State} (h : ChuteLaw s) (hcap : ∀ n, s.params.chuteCap.get n ≤ 8)
    {a : Arm} {e : Entry} (he : s.divert.queue.find? (Entry.awaits a) = some e) :
    ChuteLaw (passToChute a e s) := by
  have hremove : ∀ n, (removeEntry (Entry.awaits a) s).divert.queue.countP (Entry.loads n) ≤
      s.divert.queue.countP (Entry.loads n) := fun n => (List.eraseP_sublist).countP_le
  cases a with
  | reject => exact h.lighten_queue rfl hremove rfl
  | lane n =>
    have hawaits := List.find?_some he
    simp only [Entry.awaits, Bool.and_eq_true, beq_iff_eq] at hawaits
    have hloads : e.loads n = true := by simp [Entry.loads, hawaits]
    have hcount := countP_eraseP_of_find he (Entry.loads n)
    rw [if_pos hloads] at hcount
    have hbound := h.load n
    rw [committed_eq] at hbound
    have hn := hcap n
    refine ⟨fun m => ?_, fun m => ?_⟩
    · rw [committed_eq]
      simp only [passToChute, chuteArrival, setChute_get]
      split
      · rename_i hm
        subst hm
        rw [countP_arrive (chuteEntry_loads e)]
        simp only [setChute, removeEntry, onWall_divert, onDivert_divert, onDivert_wall,
          onWall_params, onDivert_params]
        omega
      · have hm := h.load m
        rw [committed_eq] at hm
        exact Nat.le_trans (Nat.add_le_add_left (hremove m) _) hm
    · simp only [passToChute, chuteArrival, setChute_get]
      split
      · exact length_arrive_le (h.size n) (by simp only [removeEntry, onDivert_wall]; omega)
      · exact h.size m

theorem strayArrival_chuteLaw {s : State} (h : ChuteLaw s) (n : Lane) :
    ChuteLaw (strayArrival n s) := by
  refine ⟨fun m => ?_, fun m => ?_⟩
  · have hm := h.load m
    rw [committed_eq] at hm ⊢
    simp only [strayArrival, setChute_get]
    split
    · rename_i heq
      subst heq
      refine Nat.le_trans (Nat.le_of_eq ?_) hm
      unfold arriveStray
      split
      · simp [List.countP_append, ChuteEntry.loads, setChute]
      · rfl
    · exact hm
  · simp only [strayArrival, setChute_get]
    split
    · unfold arriveStray
      split
      · rename_i hroom
        rw [List.length_append, List.length_singleton]
        exact hroom
      · exact h.size n
    · exact h.size m

/-- An entry that finds room in its chute joins the queue, R77. -/
theorem joinBelt_chuteLaw {s : State} (h : ChuteLaw s) {e : Entry}
    (hroom : ∀ n, e.loads n = true → s.committed n < s.params.chuteCap.get n) :
    ChuteLaw (joinBelt e s) := by
  refine ⟨fun n => ?_, h.size⟩
  have hn := h.load n
  rw [committed_eq] at hn ⊢
  simp only [joinBelt, onDivert_divert, onDivert_wall, onDivert_params, List.countP_append,
    List.countP_singleton]
  split
  · have hlt := hroom n ‹_›
    rw [committed_eq] at hlt
    omega
  · omega

theorem beginLight_chutes (s : State) : (beginLight s).wall.chutes = s.wall.chutes := by
  unfold beginLight
  split <;> rfl

theorem markAndSend_chutes (l : List Nat) (s : State) :
    (markAndSend l s).wall.chutes = s.wall.chutes := beginLight_chutes _

theorem ChuteLaw.act {s t : State} (hact : Act s t) (hcap : ∀ n, s.params.chuteCap.get n ≤ 8)
    (h : ChuteLaw s) : ChuteLaw t := by
  have hsame : ∀ {u : State}, u.wall.chutes = s.wall.chutes → u.divert.queue = s.divert.queue →
      u.params.chuteCap = s.params.chuteCap → ChuteLaw u := h.of_eq
  cases hact
  case told | counted | bound | promoted => exact hsame (by simp) (by simp) (by simp)
  case marked => exact hsame (markAndSend_chutes _ s) (by simp) (by simp)
  case lightSent =>
    unfold Machine.lightSent
    split
    · exact h
    · exact hsame (beginLight_chutes _) (by simp) (by simp)
  case jammed a _ => cases a <;> exact hsame rfl rfl rfl
  case gaveUp p reason _ => exact (giveUp_bookOnly p reason s).chuteLaw (outbound_chuteLaw h p reason)
  case fired a =>
    rcases fireArm_cases a s with heq | ⟨-, heq⟩ <;> rw [heq]
    · exact h
    · refine h.lighten_queue rfl (fun n => countP_changeFirst_le (fun e he => ?_) _) rfl
      simp only [Entry.fireDue, Entry.scheduledOn, Bool.and_eq_true, beq_iff_eq] at he
      exact fun hn => by simp_all [Entry.loads]
  case dwellEnded a =>
    rcases endDwell_cases a s with heq | heq <;> rw [heq]
    · exact h
    · exact hsame rfl rfl rfl
  case lapsed a =>
    rcases lapseLastFire_cases a s with heq | heq <;> rw [heq]
    · exact h
    · exact hsame rfl rfl rfl
  case missed tag =>
    rcases missEntry_bookOnly tag s with heq | hbook
    · rw [heq]
      exact h
    · refine hbook.chuteLaw (h.lighten_queue rfl (fun n => countP_changeFirst_le (fun e _ he => ?_) _) rfl)
      rw [loads_of_outbound n rfl] at he
      cases he
  case left tag => exact h.lighten_queue rfl (fun n => List.eraseP_sublist.countP_le) rfl
  case confirmed a e he => exact passToChute_chuteLaw h hcap he
  case strayed n => exact strayArrival_chuteLaw h n
  case recirculated e r _ _ =>
    exact joinBelt_chuteLaw h fun n hn => by rw [loads_of_outbound n ‹_›] at hn; cases hn
  case rejected e r _ _ _ _ =>
    have hdest : e.dest = .reject r := ‹_›
    exact joinBelt_chuteLaw h fun n hn => by simp [Entry.loads, hdest, Dest.arm] at hn
  case placed c x e _ _ _ _ _ _ _ _ =>
    have hq : c.qualifies s x = true := ‹_›
    have hdest : e.dest = .place c.lane c.position c.order.slot c.line c.kind := ‹_›
    simp only [Candidate.qualifies, Candidate.passesRest, Candidate.chuteFits, Bool.and_eq_true,
      decide_eq_true_eq] at hq
    refine joinBelt_chuteLaw (s := reserve c.order.slot c.line x.grams x.product.layer s)
      (hsame rfl rfl rfl) fun n hn => ?_
    simp only [Entry.loads, hdest, Dest.arm, Bool.and_eq_true, beq_iff_eq, Option.some.injEq,
      Arm.lane.injEq] at hn
    exact hn.left ▸ hq.right.left.right
  case put n e rest _ _ _ _ _ =>
    have hhead : s.wall.chutes.get n = e :: rest := ‹_›
    exact (confirm_bookOnly ..).chuteLaw
      (setChute_chuteLaw h (hhead ▸ List.sublist_cons_self _ _))
  case took n e rest _ _ =>
    have hhead : s.wall.chutes.get n = e :: rest := ‹_›
    exact setChute_chuteLaw h (hhead ▸ List.sublist_cons_self _ _)
  case cancelled o _ _ =>
    refine (cancelInFlight_bookOnly o s).chuteLaw (h.lighten (fun n => ?_) (fun n => ?_)
      (fun n => countP_map_le (loads_cancelFor o.slot n) _) rfl)
    · simp only [cancelledState, onWall_wall, PerLane.get_map]
      exact countP_map_le (chuteLoads_cancelFor o.slot) _
    · simp [cancelledState]
  case disarmed =>
    exact (clearArmsLive_bookOnly s).chuteLaw (outbound_chuteLaw (s := arrestedState s)
      (hsame rfl rfl rfl) _ _)
  all_goals exact hsame rfl rfl rfl

end Sys2Proof.Machine
end

section
/-! PROOFS. The steps keep the bounds of the chutes, of the capture list and the belt queue, and of the recirculation
table. -/

namespace Sys2Proof.Machine

/-! ### The chutes -/

theorem chuteLaw_cleared (s : State) : ChuteLaw (clearLists s) := by
  refine (clearLists_bookOnly s).chuteLaw ⟨fun n => ?_, fun n => ?_⟩
  · rw [committed_eq]
    simp [emptiedState]
  · simp [emptiedState]

theorem ChuteLaw.works {s t : State} (hworks : Works s t) (hparams : ParamsLaw s) (h : ChuteLaw s) :
    ChuteLaw t := by
  refine (keeps_of_run (P := fun u => ParamsLaw u ∧ ChuteLaw u) (fun u v hwork hu => ?_) hworks
    ⟨hparams, h⟩).right
  obtain ⟨hp, hu⟩ := hu
  refine ⟨hp.of_eq hwork.firm.params hwork.firm.phase, ?_⟩
  cases hwork
  case touched => exact hu.of_eq rfl rfl rfl
  case deed hdeed =>
    cases hdeed
    case act hact => exact hu.act hact fun n => (hp.chuteCap n).right
    case cleared => exact chuteLaw_cleared u
    all_goals exact hu.of_eq rfl rfl rfl

/-- No CHUTE_CAP is written below the committed count of its lane, R181. -/
theorem ChuteLaw.stored {s : State} (h : ChuteLaw s) {q : Param} {v : Nat}
    (hload : belowLoad s v q = false) : ChuteLaw (stored q v s) := by
  cases q
  case chuteCap n =>
    refine ⟨fun m => ?_, h.size⟩
    have hle : ¬ v < s.committed n := by simpa [belowLoad] using hload
    have hm := h.load m
    rw [committed_eq] at hm ⊢
    simp only [Machine.stored, Params.store, PerLane.get_set]
    split
    · rename_i heq
      subst heq
      rw [committed_eq] at hle
      omega
    · exact hm
  all_goals exact h.of_eq rfl rfl rfl

theorem ChuteLaw.move {s t : State} (hmove : Move s t) (hparams : ParamsLaw s) (h : ChuteLaw s) :
    ChuteLaw t := by
  cases hmove
  case turn hturn => exact h.works hturn.works hparams
  case pinned hturns _ =>
    exact ChuteLaw.works (s := s.onPins _) hturns.works (hparams.of_eq rfl rfl) (h.of_eq rfl rfl rfl)
  case stopped =>
    have hstop : ChuteLaw (stopTaken true s) := h.of_eq rfl rfl rfl
    split
    · exact hstop.act (.disarmed _) fun n => (hparams.chuteCap n).right
    · exact hstop
  case written q v _ _ _ _ _ _ =>
    exact ChuteLaw.works (Turns.works ‹_›) (hparams.stored q v) (h.stored ‹_›)
  all_goals exact h.of_eq rfl rfl rfl

theorem chuteLaw_lawful : Lawful fun s => ParamsLaw s ∧ ChuteLaw s where
  pending l h := ⟨paramsLaw_lawful.pending l h.left, h.right.of_eq rfl rfl rfl⟩
  wire {s t} hr hwire h := by
    refine ⟨paramsLaw_lawful.wire hr hwire h.left, ?_⟩
    cases hwire
    case move hmove => exact h.right.move hmove h.left
    case sent =>
      unfold frameSent
      split <;> exact h.right.of_eq rfl rfl rfl
    all_goals exact h.right.of_eq rfl rfl rfl
  held pins hr h := ⟨paramsLaw_lawful.held pins hr h.left, h.right.of_eq rfl rfl rfl⟩
  reset k h := by
    refine ⟨paramsLaw_lawful.reset k h.left, fun n => ?_, fun n => ?_⟩
    · rw [committed_eq]
      simp [takeReset, PutWall.reset, DivertScheduler.reset]
    · simp [takeReset, PutWall.reset]
  ended straps hr h := ⟨paramsLaw_lawful.ended straps hr h.left,
    h.right.of_eq (beginLight_chutes _) (by simp [endReset]) (by simp [endReset])⟩

/-! ### The capture list and the belt queue -/

/-- The law of the capture list and the belt queue, with a bound on the ages of its own. -/
structure CaptureWithin (k : Nat) (s : State) : Prop where
  size : s.capture.list.length ≤ 8
  order : s.capture.list.Pairwise fun a b => s.age b ≤ s.age a
  oldest : ∀ c ∈ s.capture.list, s.age c ≤ k
  queue : s.divert.queue.length ≤ 48

theorem captureLaw_iff {s : State} : CaptureLaw s ↔ CaptureWithin (s.params.pairMax + 1) s :=
  ⟨fun h => ⟨h.size, h.order, h.oldest, h.queue⟩, fun h => ⟨h.size, h.order, h.oldest, h.queue⟩⟩

theorem CaptureWithin.of_eq {k : Nat} {s t : State} (h : CaptureWithin k s)
    (hcapture : t.capture.list = s.capture.list) (hp : t.belt.p = s.belt.p)
    (hqueue : t.divert.queue.length ≤ s.divert.queue.length) : CaptureWithin k t := by
  have hage : ∀ c, t.age c = s.age c := fun c => by simp only [State.age, State.p, hp]
  refine ⟨hcapture ▸ h.size, ?_, ?_, Nat.le_trans hqueue h.queue⟩
  · simp only [hage, hcapture]
    exact h.order
  · simp only [hage, hcapture]
    exact h.oldest

theorem CaptureWithin.mono {k m : Nat} {s : State} (h : CaptureWithin k s) (hkm : k ≤ m) :
    CaptureWithin m s := ⟨h.size, h.order, fun c hc => Nat.le_trans (h.oldest c hc) hkm, h.queue⟩

/-- The oldest capture stands first, R49. -/
theorem CaptureWithin.of_headFresh {k : Nat} {s : State} (h : CaptureWithin k s) (hfresh : HeadFresh s) :
    CaptureWithin s.params.pairMax s := by
  refine ⟨h.size, h.order, fun c hc => ?_, h.queue⟩
  rcases hlist : s.capture.list with _ | ⟨head, rest⟩
  · rw [hlist] at hc
    cases hc
  · have hhead := hfresh head rest hlist
    have horder := h.order
    rw [hlist] at hc horder
    rcases List.mem_cons.mp hc with rfl | hc
    · exact hhead
    · exact Nat.le_trans ((List.pairwise_cons.mp horder).left c hc) hhead

theorem BookOnly.queue_eq {s t : State} (h : BookOnly s t) : t.divert.queue = s.divert.queue := by
  rw [h.divert_eq]

/-- Only an appended entry lengthens the belt queue. -/
theorem Act.queue_length {s t : State} (h : Act s t) (hs : s.divert.queue.length ≤ 48) :
    t.divert.queue.length ≤ 48 := by
  have hsame : ∀ {u : State}, u.divert.queue.length = s.divert.queue.length →
      u.divert.queue.length ≤ 48 := fun hu => Nat.le_trans (Nat.le_of_eq hu) hs
  have hbook : ∀ {u v : State}, BookOnly u v → u.divert.queue.length = s.divert.queue.length →
      v.divert.queue.length ≤ 48 := fun huv hu => hsame ((congrArg _ huv.queue_eq).trans hu)
  have hjoin : ∀ {e : Entry} {u : State}, u.divert = s.divert → s.divert.queue.length < 48 →
      (joinBelt e u).divert.queue.length ≤ 48 := by
    intro e u hu hlt
    simp only [joinBelt, onDivert_divert, List.length_append, List.length_singleton, hu]
    omega
  cases h
  case told | counted | marked | bound | promoted => exact hsame (by simp)
  case lightSent =>
    unfold Machine.lightSent
    split
    · exact hs
    · exact hsame (by simp)
  case jammed a _ => cases a <;> exact hs
  case gaveUp p reason _ => exact hbook (giveUp_bookOnly p reason s) (List.length_map ..)
  case fired a =>
    rcases fireArm_cases a s with heq | ⟨-, heq⟩ <;> rw [heq]
    · exact hs
    · exact hsame (length_changeFirst ..)
  case dwellEnded a =>
    rcases endDwell_cases a s with heq | heq <;> rw [heq] <;> exact hs
  case lapsed a =>
    rcases lapseLastFire_cases a s with heq | heq <;> rw [heq] <;> exact hs
  case missed tag =>
    rcases missEntry_bookOnly tag s with heq | hst
    · rw [heq]
      exact hs
    · exact hbook hst (length_changeFirst ..)
  case left => exact Nat.le_trans (List.eraseP_sublist).length_le hs
  case confirmed a _ _ => cases a <;> exact Nat.le_trans (List.eraseP_sublist).length_le hs
  case recirculated => exact hjoin rfl ‹_›
  case rejected => exact hjoin rfl ‹BeltOpen s›.room
  case placed => exact hjoin rfl ‹BeltOpen s›.room
  case put => exact hbook (confirm_bookOnly ..) rfl
  case cancelled o _ _ => exact hbook (cancelInFlight_bookOnly o s) (List.length_map ..)
  case disarmed => exact hbook (clearArmsLive_bookOnly s) (List.length_map ..)
  all_goals exact hs

theorem setTrail_leads (p : Pos) (l : List Capture) :
    (setTrail p l).map (·.lead) = l.map (·.lead) := by
  induction l with
  | nil => rfl
  | cons c l ih =>
    cases l with
    | nil => rfl
    | cons d l =>
      rw [setTrail, List.map_cons, ih, List.map_cons]
      · rfl
      · exact List.cons_ne_nil d l

/-- A capture list is within the law as its leading positions are. -/
theorem captureWithin_of_leads {k : Nat} {s : State}
    (hsize : (s.capture.list.map (·.lead)).length ≤ 8)
    (horder : (s.capture.list.map (·.lead)).Pairwise fun a b => ahead b s.p ≤ ahead a s.p)
    (holdest : ∀ a ∈ s.capture.list.map (·.lead), ahead a s.p ≤ k)
    (hqueue : s.divert.queue.length ≤ 48) : CaptureWithin k s :=
  ⟨by simpa using hsize, List.pairwise_map.mp horder,
    fun c hc => holdest _ (List.mem_map_of_mem hc), hqueue⟩

theorem CaptureWithin.deed {k : Nat} {s t : State} (hdeed : Deed s t) (h : CaptureWithin k s) :
    CaptureWithin k t := by
  cases hdeed
  case act hact =>
    have hsteady := hact.steady
    have hp : t.belt.p = s.belt.p := by rw [hsteady.belt]
    refine { h.of_eq (t := { t with divert := s.divert }) (by rw [hsteady.capture]) hp (Nat.le_refl _) with
      queue := hact.queue_length h.queue }
  case captured trail hroom =>
    have hage : ahead s.p s.p = 0 := by simp [ahead]
    refine captureWithin_of_leads ?_ ?_ ?_ h.queue
    all_goals
      simp only [onCapture_capture, State.p, onCapture_belt, List.map_append, List.map_cons,
        List.map_nil]
    · rw [List.length_append, List.length_map]
      exact hroom
    · refine List.pairwise_append.mpr ⟨List.pairwise_map.mpr h.order, List.pairwise_singleton _ _,
        fun a _ b hb => ?_⟩
      rw [List.mem_singleton.mp hb]
      exact Nat.le_trans (Nat.le_of_eq hage) (Nat.zero_le _)
    · intro a ha
      rcases List.mem_append.mp ha with ha | ha
      · obtain ⟨c, hc, rfl⟩ := List.mem_map.mp ha
        exact h.oldest c hc
      · rw [List.mem_singleton.mp ha]
        exact Nat.le_trans (Nat.le_of_eq hage) (Nat.zero_le _)
  case trailed =>
    have hleads : (trailingEdge s).capture.list.map (·.lead) = s.capture.list.map (·.lead) :=
      setTrail_leads _ _
    refine captureWithin_of_leads ?_ ?_ ?_ h.queue <;> rw [hleads]
    · simpa using h.size
    · exact List.pairwise_map.mpr h.order
    · intro a ha
      obtain ⟨c, hc, rfl⟩ := List.mem_map.mp ha
      exact h.oldest c hc
  case handed c rest hlist =>
    have hsub : rest.Sublist s.capture.list := hlist ▸ List.sublist_cons_self c rest
    exact ⟨Nat.le_trans hsub.length_le h.size, h.order.sublist hsub,
      fun d hd => h.oldest d (hsub.subset hd), h.queue⟩
  case cleared =>
    have hcapture : (clearLists s).capture.list = [] := by
      rw [(clearLists_bookOnly s).steady.capture]
      rfl
    have hqueue : (clearLists s).divert.queue = [] := by
      rw [(clearLists_bookOnly s).divert_eq]
      rfl
    refine ⟨?_, ?_, ?_, ?_⟩
    · rw [hcapture]
      exact Nat.zero_le _
    · rw [hcapture]
      exact .nil
    · rw [hcapture]
      exact nofun
    · rw [hqueue]
      exact Nat.zero_le _

theorem CaptureWithin.works {k : Nat} {s t : State} (hworks : Works s t) (h : CaptureWithin k s) :
    CaptureWithin k t := by
  refine keeps_of_run (P := CaptureWithin k) (fun _ _ hwork hu => ?_) hworks h
  cases hwork
  case deed hdeed => exact hu.deed hdeed
  case touched => exact hu.of_eq rfl rfl (Nat.le_refl _)

/-- A count makes every capture one position older, R44. -/
theorem age_makeCount {s : State} {c : Capture} (h : s.age c ≤ 8191) :
    (makeCount s).age c = s.age c + 1 := by
  simp only [State.age, State.p, ahead, makeCount, markDue, onDivert_belt, onBelt_belt] at h ⊢
  bv_omega

theorem CaptureLaw.move {s t : State} (hmove : Move s t) (hparams : ParamsLaw s) (h : CaptureLaw s) :
    CaptureLaw t := by
  have hwithin := captureLaw_iff.mp h
  have hsame : ∀ {u : State}, u.capture.list = s.capture.list → u.belt.p = s.belt.p →
      u.divert.queue.length ≤ s.divert.queue.length → u.params.pairMax = s.params.pairMax →
      CaptureLaw u := fun hc hp hq hmax => captureLaw_iff.mpr (hmax ▸ hwithin.of_eq hc hp hq)
  have hworks : ∀ {u : State}, Works u t → u.params.pairMax = s.params.pairMax →
      CaptureWithin (s.params.pairMax + 1) u → CaptureLaw t := fun hut hmax hu => by
    refine captureLaw_iff.mpr ?_
    rw [hut.firm.params, hmax]
    exact hu.works hut
  cases hmove
  case turn hturn => exact hworks hturn.works rfl hwithin
  case pinned hturns _ => exact hworks hturns.works rfl (hwithin.of_eq rfl rfl (Nat.le_refl _))
  case counted hfresh =>
    have hle := (hwithin.of_headFresh hfresh).oldest
    have hmax := hparams.pairMax.right
    have hage : ∀ c ∈ s.capture.list, (makeCount s).age c = s.age c + 1 := fun c hc =>
      age_makeCount (Nat.le_trans (hle c hc) hmax)
    refine captureLaw_iff.mpr ⟨h.size, ?_, fun c hc => ?_, h.queue⟩
    · refine List.Pairwise.imp_of_mem (fun {a b} ha hb hab => ?_) h.order
      rw [hage a ha, hage b hb]
      exact Nat.succ_le_succ hab
    · rw [hage c hc]
      exact Nat.succ_le_succ (hle c hc)
  case stopped =>
    have hstop : CaptureWithin (s.params.pairMax + 1) (stopTaken true s) :=
      hwithin.of_eq rfl rfl (Nat.le_refl _)
    split
    · exact captureLaw_iff.mpr (by
        rw [(Act.disarmed (stopTaken true s)).steady.params]
        exact hstop.deed (.act (.disarmed _)))
    · exact captureLaw_iff.mpr hstop
  case written q v _ _ _ _ _ _ =>
    have hturns := Turns.works ‹_›
    have hstored : CaptureWithin (s.params.pairMax + 1) (stored q (q.clampIn s.params v) s) := by
      cases q <;> exact hwithin.of_eq rfl rfl (Nat.le_refl _)
    have hfresh : q = .pairMax → HeadFresh t := ‹_›
    by_cases hq : q = .pairMax
    · exact captureLaw_iff.mpr (((hstored.works hturns).of_headFresh (hfresh hq)).mono
        (Nat.le_succ _))
    · have hmax : s.params.pairMax ≤ t.params.pairMax := by
        rw [hturns.firm.params]
        cases q
        case pairMin => exact Nat.le_max_left _ _
        case pairMax => exact absurd rfl hq
        all_goals exact Nat.le_refl _
      exact captureLaw_iff.mpr ((hstored.works hturns).mono (Nat.succ_le_succ hmax))
  all_goals exact hsame rfl rfl (Nat.le_refl _) rfl

theorem captureLaw_lawful : Lawful fun s => ParamsLaw s ∧ CaptureLaw s where
  pending l h := ⟨paramsLaw_lawful.pending l h.left,
    ⟨h.right.size, h.right.order, h.right.oldest, h.right.queue⟩⟩
  wire {s t} hr hwire h := by
    refine ⟨paramsLaw_lawful.wire hr hwire h.left, ?_⟩
    obtain ⟨hparams, h⟩ := h
    cases hwire
    case move hmove => exact h.move hmove hparams
    case sent =>
      unfold frameSent
      split <;> exact ⟨h.size, h.order, h.oldest, h.queue⟩
    all_goals exact ⟨h.size, h.order, h.oldest, h.queue⟩
  held pins hr h := ⟨paramsLaw_lawful.held pins hr h.left,
    ⟨h.right.size, h.right.order, h.right.oldest, h.right.queue⟩⟩
  reset k h := ⟨paramsLaw_lawful.reset k h.left,
    ⟨Nat.zero_le _, .nil, fun c hc => absurd hc List.not_mem_nil, Nat.zero_le _⟩⟩
  ended {s} straps hr h := by
    have hparams : (endReset straps s).params = s.params := by simp [endReset]
    refine ⟨paramsLaw_lawful.ended straps hr h.left, captureLaw_iff.mpr ?_⟩
    rw [hparams]
    exact (captureLaw_iff.mp h.right).of_eq (by simp [endReset]) (by simp [endReset])
      (by simp [endReset])

/-! ### The recirculation table -/

theorem RecircLaw.of_eq {s t : State} (h : RecircLaw s) (heq : t.recirc = s.recirc) : RecircLaw t :=
  ⟨heq ▸ h.size, heq ▸ h.once, heq ▸ h.fields⟩

theorem BookOnly.recirc_eq {s t : State} (h : BookOnly s t) : t.recirc = s.recirc := by
  obtain ⟨b, l, u, rfl⟩ := h
  rfl

/-- A pass raises a carrier's record, or makes one at the tail, R87. -/
theorem RecircLaw.passed {s : State} (h : RecircLaw s) {carrier : Nat} (hc : carrier ≠ 0) :
    RecircLaw (s.onRecirc (countPass carrier)) := by
  have hnew : ∀ l : List Recirc, l.Sublist s.recirc → l.length < 64 →
      (∀ r ∈ l, r.carrier ≠ carrier) →
      RecircLaw (s.onRecirc fun _ => l ++ [{ carrier := carrier, passes := 1 }]) := by
    intro l hsub hlength hnot
    refine ⟨?_, ?_, fun r hr => ?_⟩
    · rw [onRecirc_recirc, List.length_append]
      exact hlength
    · refine List.pairwise_append.mpr ⟨h.once.sublist hsub, List.pairwise_singleton _ _, fun r hr x hx => ?_⟩
      rw [List.mem_singleton.mp hx]
      exact hnot r hr
    · rcases List.mem_append.mp hr with hr | hr
      · exact h.fields r (hsub.subset hr)
      · rw [List.mem_singleton.mp hr]
        exact ⟨hc, Nat.le_refl 1, show 1 ≤ 7 by decide⟩
  rcases hany : s.recirc.any (fun r => r.carrier == carrier) with _ | _
  · have hnot : ∀ r ∈ s.recirc, r.carrier ≠ carrier := fun r hr heq => by
      have hsome : s.recirc.any (fun r => r.carrier == carrier) = true :=
        List.any_eq_true.mpr ⟨r, hr, beq_iff_eq.mpr heq⟩
      exact absurd (hany.symm.trans hsome) (by decide)
    by_cases hroom : s.recirc.length < 64
    · have heq : countPass carrier s.recirc = s.recirc ++ [{ carrier := carrier, passes := 1 }] := by
        simp [countPass, hany, Config.recircRecords, hroom]
      exact (hnew s.recirc (.refl _) hroom hnot).of_eq heq
    · have heq : countPass carrier s.recirc =
          s.recirc.drop 1 ++ [{ carrier := carrier, passes := 1 }] := by
        simp [countPass, hany, Config.recircRecords, hroom]
      have hsub := List.drop_sublist 1 s.recirc
      have hsize := h.size
      exact (hnew _ hsub (by rw [List.length_drop]; omega) fun r hr => hnot r (hsub.subset hr)).of_eq heq
  · obtain ⟨l₁, x, l₂, hsplit, -, -, hchange⟩ := changeFirst_split
      (fun r => { r with passes := min (r.passes + 1) Config.maxRecordPasses }) hany
    have heq : countPass carrier s.recirc = l₁ ++
        { x with passes := min (x.passes + 1) Config.maxRecordPasses } :: l₂ := by
      simp only [countPass, hany, reduceIte, hchange]
    have hcarriers : (countPass carrier s.recirc).map (·.carrier) = s.recirc.map (·.carrier) := by
      rw [heq, hsplit]
      simp
    refine ⟨?_, ?_, fun r hr => ?_⟩
    · have hlength := congrArg List.length hcarriers
      rw [List.length_map, List.length_map] at hlength
      exact Nat.le_trans (Nat.le_of_eq hlength) h.size
    · have honce : (s.recirc.map (·.carrier)).Pairwise (· ≠ ·) := List.pairwise_map.mpr h.once
      rw [← hcarriers] at honce
      exact List.pairwise_map.mp honce
    · simp only [onRecirc_recirc, heq] at hr
      have hold : ∀ y, y ∈ l₁ ++ x :: l₂ → y.carrier ≠ 0 ∧ 1 ≤ y.passes ∧ y.passes ≤ 7 := fun y hy =>
        h.fields y (hsplit ▸ hy)
      rcases List.mem_append.mp hr with hr | hr
      · exact hold r (List.mem_append_left _ hr)
      · rcases List.mem_cons.mp hr with rfl | hr
        · obtain ⟨h0, h1, h7⟩ := hold x (List.mem_append_right _ List.mem_cons_self)
          refine ⟨h0, ?_, ?_⟩ <;> simp only [Config.maxRecordPasses] <;> omega
        · exact hold r (List.mem_append_right _ (List.mem_cons_of_mem _ hr))

theorem RecircLaw.act {s t : State} (hact : Act s t) (h : RecircLaw s) : RecircLaw t := by
  cases hact
  case passed hc => exact h.passed hc
  case forgot carrier =>
    have hsub : (s.recirc.eraseP fun r => r.carrier == carrier).Sublist s.recirc := List.eraseP_sublist
    exact ⟨Nat.le_trans hsub.length_le h.size, h.once.sublist hsub, fun r hr => h.fields r (hsub.subset hr)⟩
  case told | counted | marked | bound | promoted => exact h.of_eq (by simp)
  case lightSent =>
    unfold Machine.lightSent
    split
    · exact h
    · exact h.of_eq (by simp)
  case jammed a _ => cases a <;> exact h.of_eq rfl
  case gaveUp p reason _ => exact h.of_eq (giveUp_bookOnly p reason s).recirc_eq
  case fired a =>
    rcases fireArm_cases a s with heq | ⟨-, heq⟩ <;> rw [heq]
    · exact h
    · exact h.of_eq rfl
  case dwellEnded a =>
    rcases endDwell_cases a s with heq | heq <;> rw [heq]
    · exact h
    · exact h.of_eq rfl
  case lapsed a =>
    rcases lapseLastFire_cases a s with heq | heq <;> rw [heq]
    · exact h
    · exact h.of_eq rfl
  case missed tag =>
    rcases missEntry_bookOnly tag s with heq | hst
    · rw [heq]
      exact h
    · exact h.of_eq hst.recirc_eq
  case confirmed a _ _ => cases a <;> exact h.of_eq rfl
  case put => exact h.of_eq (confirm_bookOnly ..).recirc_eq
  case cancelled o _ _ => exact h.of_eq (cancelInFlight_bookOnly o s).recirc_eq
  case disarmed => exact h.of_eq (clearArmsLive_bookOnly s).recirc_eq
  all_goals exact h.of_eq rfl

theorem RecircLaw.works {s t : State} (hworks : Works s t) (h : RecircLaw s) : RecircLaw t := by
  refine keeps_of_run (P := RecircLaw) (fun _ _ hwork hu => ?_) hworks h
  cases hwork
  case touched => exact hu.of_eq rfl
  case deed hdeed =>
    cases hdeed
    case act hact => exact hu.act hact
    case cleared => exact hu.of_eq (clearLists_bookOnly _).recirc_eq
    all_goals exact hu.of_eq rfl

theorem RecircLaw.move {s t : State} (hmove : Move s t) (h : RecircLaw s) : RecircLaw t := by
  cases hmove
  case turn hturn => exact h.works hturn.works
  case pinned hturns _ => exact (h.of_eq (t := s.onPins _) rfl).works hturns.works
  case stopped =>
    have hstop : RecircLaw (stopTaken true s) := h.of_eq rfl
    split
    · exact hstop.act (.disarmed _)
    · exact hstop
  case written q v _ _ _ _ _ _ =>
    refine RecircLaw.works (Turns.works ‹_›) ?_
    cases q <;> exact h.of_eq rfl
  all_goals exact h.of_eq rfl

theorem recircLaw_lawful : Lawful RecircLaw where
  pending _ h := h.of_eq rfl
  wire {s t} _ hwire h := by
    cases hwire
    case move hmove => exact h.move hmove
    case sent =>
      unfold frameSent
      split <;> exact h.of_eq rfl
    all_goals exact h.of_eq rfl
  held _ _ h := h.of_eq rfl
  reset _ _ := ⟨Nat.zero_le _, .nil, fun r hr => absurd hr List.not_mem_nil⟩
  ended _ _ h := h.of_eq (by simp [endReset])

/-- Settles O60: each bound is kept by all that a step is made of, the first two together with the ranges of
the parameters. -/
theorem listLawsAreKept : Obligations.ListLawsAreKept :=
  fun _ _ hparams hstep =>
    ⟨fun h => (chuteLaw_lawful.step hstep ⟨hparams, h⟩).right,
      fun h => (captureLaw_lawful.step hstep ⟨hparams, h⟩).right, recircLaw_lawful.step hstep⟩

end Sys2Proof.Machine
end

section
/-! PROOFS. The reservation accounts of one order against the claims on it, and of a book against all claims; what the
operations on the accounts make of them. -/

namespace Sys2Proof.Machine

/-! ### One order -/

/-- The accounts of an order agree with a list of claims on it, R15, and keep within R10. -/
structure Balanced (cs : List Claim) (o : Order) : Prop where
  byLine : ∀ i, ((o.lines[i]?).map (·.reserved)).getD 0 = cs.countP fun c => c.line == i
  layers : o.layerCounts.length = 4
  byLayer : ∀ l, o.layerCounts.getD l 0 = cs.countP fun c => c.layer == l
  byWeight : o.reservedWeight = (cs.map (·.grams)).sum
  quantities : ∀ l ∈ o.lines, l.reserved + l.placed ≤ l.quantity
  budget : o.reservedWeight + o.placedWeight ≤ o.budget

namespace Balanced
variable {cs ds : List Claim} {c : Claim} {o x : Order}

theorem perm (h : Balanced cs o) (hperm : ds.Perm cs) : Balanced ds o where
  byLine i := (h.byLine i).trans (hperm.countP_eq _).symm
  layers := h.layers
  byLayer l := (h.byLayer l).trans (hperm.countP_eq _).symm
  byWeight := h.byWeight.trans ((hperm.map _).sum_nat).symm
  quantities := h.quantities
  budget := h.budget

/-- The accounts do not rest on the state or the binding of the order. -/
theorem of_eq (h : Balanced cs o) (hlines : x.lines = o.lines)
    (hlayers : x.layerCounts = o.layerCounts) (hreserved : x.reservedWeight = o.reservedWeight)
    (hplaced : x.placedWeight = o.placedWeight) (hbudget : x.budget = o.budget) : Balanced cs x where
  byLine := hlines ▸ h.byLine
  layers := hlayers ▸ h.layers
  byLayer := hlayers ▸ h.byLayer
  byWeight := hreserved ▸ h.byWeight
  quantities := hlines ▸ h.quantities
  budget := by
    rw [hreserved, hplaced, hbudget]
    exact h.budget

/-- A claim's line is one of the order's, with a reservation. -/
theorem line_of_mem (h : Balanced cs o) (hc : c ∈ cs) :
    ∃ l, o.lines[c.line]? = some l ∧ 1 ≤ l.reserved := by
  have hpos : 0 < cs.countP fun d => d.line == c.line :=
    List.countP_pos_iff.mpr ⟨c, hc, beq_iff_eq.mpr rfl⟩
  rw [← h.byLine c.line] at hpos
  rcases hl : o.lines[c.line]? with _ | l
  · simp [hl] at hpos
  · rw [hl] at hpos
    exact ⟨l, rfl, hpos⟩

/-- An order with no reservation left has no claim on it. -/
theorem nil_of_reservations (h : Balanced cs o) (hzero : ∀ l ∈ o.lines, l.reserved = 0) :
    cs = [] := by
  refine List.eq_nil_iff_forall_not_mem.mpr fun c hc => ?_
  obtain ⟨l, hl, hpos⟩ := h.line_of_mem hc
  have hz := hzero l (List.mem_of_getElem? hl)
  omega

theorem getElem?_modify_reserved (lines : List RecipeLine) (line i : Nat) (f : RecipeLine → RecipeLine)
    (g : Nat → Nat) (hf : ∀ l, (f l).reserved = g l.reserved) :
    (((lines.modify line f)[i]?).map (·.reserved)) =
      if line = i then (lines[i]?.map (·.reserved)).map g else lines[i]?.map (·.reserved) := by
  rw [List.getElem?_modify]
  rcases lines[i]? with _ | l
  · split <;> rfl
  · split <;> simp [hf]

theorem getD_modify (counts : List Nat) (f : Nat → Nat) (k l : Nat) (hl : l < counts.length) :
    (counts.modify k f).getD l 0 = if k = l then f (counts.getD l 0) else counts.getD l 0 := by
  simp only [List.getD_eq_getElem?_getD, List.getElem?_modify, List.getElem?_eq_getElem hl]
  split <;> simp

/-- The accounts after a claim has gone: a unit leaves the reserved of its line, R12 and R13. -/
theorem tail (h : Balanced (c :: cs) o) (f : RecipeLine → RecipeLine)
    (hf : ∀ l, (f l).reserved = l.reserved - 1)
    (hfits : ∀ l, 1 ≤ l.reserved → l.reserved + l.placed ≤ l.quantity →
      (f l).reserved + (f l).placed ≤ (f l).quantity)
    (hlines : x.lines = o.lines.modify c.line f)
    (hlayers : x.layerCounts = o.layerCounts.modify c.layer (· - 1))
    (hreserved : x.reservedWeight = o.reservedWeight - c.grams)
    (hbudget : x.reservedWeight + x.placedWeight ≤ x.budget) : Balanced cs x where
  byLine i := by
    have hi := h.byLine i
    obtain ⟨l, hl, hpos⟩ := h.line_of_mem List.mem_cons_self
    rw [List.countP_cons] at hi
    rw [hlines, getElem?_modify_reserved _ _ _ _ (· - 1) hf]
    split
    · rename_i heq
      subst heq
      rw [hl] at hi ⊢
      simp at hi ⊢
      omega
    · rename_i hne
      rw [hi, if_neg (by simpa using hne), Nat.add_zero]
  layers := by rw [hlayers, List.length_modify, h.layers]
  byLayer l := by
    have hl := h.byLayer l
    rw [List.countP_cons] at hl
    rw [hlayers]
    by_cases hlt : l < 4
    · rw [getD_modify _ _ _ _ (h.layers ▸ hlt)]
      split
      · rename_i heq
        rw [if_pos (by simpa using heq)] at hl
        omega
      · rename_i hne
        rw [hl, if_neg (by simpa using hne), Nat.add_zero]
    · have hout : o.layerCounts.getD l 0 = 0 := by
        exact getD_of_length_le (by rw [h.layers]; omega) 0
      have hout' : (o.layerCounts.modify c.layer (· - 1)).getD l 0 = 0 := by
        exact getD_of_length_le (by rw [List.length_modify, h.layers]; omega) 0
      omega
  byWeight := by
    rw [hreserved, h.byWeight, List.map_cons, List.sum_cons]
    omega
  quantities l hl := by
    rw [hlines] at hl
    obtain ⟨i, hi, rfl⟩ := List.mem_iff_getElem.mp hl
    simp only [List.getElem_modify]
    have hi' : i < o.lines.length := by simpa using hi
    have hq := h.quantities _ (List.getElem_mem hi')
    split
    · rename_i heq
      subst heq
      obtain ⟨l, hl, hpos⟩ := h.line_of_mem List.mem_cons_self
      rw [List.getElem?_eq_getElem hi', Option.some_inj] at hl
      exact hfits _ (hl ▸ hpos) hq
    · exact hq
  budget := hbudget

theorem release (h : Balanced (c :: cs) o) : Balanced cs (o.release c.line c.grams c.layer) := by
  refine h.tail _ (fun _ => rfl) (fun l _ hq => ?_) rfl rfl rfl ?_
  · dsimp only
    omega
  · have hb := h.budget
    simp only [Order.release]
    omega

theorem confirm (h : Balanced (c :: cs) o) : Balanced cs (o.confirm c.line c.grams c.layer) := by
  refine h.tail _ (fun _ => rfl) (fun l hpos hq => ?_) rfl rfl rfl ?_
  · dsimp only
    omega
  · have hb := h.budget
    have hw := h.byWeight
    rw [List.map_cons, List.sum_cons] at hw
    simp only [Order.confirm]
    omega

/-- A reservation that finds a unit of its line and room in the budget, R10 and R11. -/
theorem reserve (h : Balanced cs o) {l : RecipeLine} (hline : o.lines[c.line]? = some l)
    (hremaining : l.remaining ≠ 0) (hlayer : c.layer < 4)
    (hweight : o.reservedWeight + o.placedWeight + c.grams ≤ o.budget) :
    Balanced (c :: cs) (o.reserve c.line c.grams c.layer) where
  byLine i := by
    have hi := h.byLine i
    simp only [Order.reserve, List.countP_cons]
    rw [getElem?_modify_reserved _ _ _ _ (· + 1) fun _ => rfl]
    split
    · rename_i heq
      subst heq
      rw [hline] at hi ⊢
      simpa using hi
    · rename_i hne
      rw [hi, if_neg (by simpa using hne), Nat.add_zero]
  layers := by rw [Order.reserve, List.length_modify, h.layers]
  byLayer k := by
    have hk := h.byLayer k
    simp only [Order.reserve, List.countP_cons]
    by_cases hlt : k < 4
    · rw [getD_modify _ _ _ _ (h.layers ▸ hlt)]
      split
      · rename_i heq
        rw [if_pos (by simpa using heq), hk]
      · rename_i hne
        rw [hk, if_neg (by simpa using hne), Nat.add_zero]
    · have hout : o.layerCounts.getD k 0 = 0 := by
        exact getD_of_length_le (by rw [h.layers]; omega) 0
      have hout' : (o.layerCounts.modify c.layer (· + 1)).getD k 0 = 0 := by
        exact getD_of_length_le (by rw [List.length_modify, h.layers]; omega) 0
      have hne : c.layer ≠ k := by omega
      rw [hout', if_neg (by simpa using hne)]
      omega
  byWeight := by
    rw [List.map_cons, List.sum_cons, ← h.byWeight]
    exact Nat.add_comm _ _
  quantities m hm := by
    obtain ⟨i, hi, rfl⟩ := List.mem_iff_getElem.mp hm
    simp only [Order.reserve, List.getElem_modify]
    have hi' : i < o.lines.length := by simpa [Order.reserve] using hi
    have hq := h.quantities _ (List.getElem_mem hi')
    split
    · rename_i heq
      subst heq
      rw [List.getElem?_eq_getElem hi', Option.some_inj] at hline
      subst hline
      simp only [RecipeLine.remaining] at hremaining
      dsimp only
      omega
    · exact hq
  budget := by
    simp only [Order.reserve]
    omega

end Balanced

/-! ### The book -/

/-- The state in which an order may have claims on it, R12 and R15. -/
def OrderState.live (st : OrderState) : Prop := st = .opened ∨ st = .shorting

/-- The accounts of every order of a book agree with the claims on its slot. An order in a slot of `ex` may
have claims whatever its state. -/
structure Agrees (ex : Nat → Prop) (cl : Nat → List Claim) (b : OrderBook) : Prop where
  balanced : ∀ o ∈ b.orders, Balanced (cl o.slot) o
  states : ∀ o ∈ b.orders, cl o.slot ≠ [] → o.state.live ∨ ex o.slot
  known : ∀ i, cl i ≠ [] → ∃ o ∈ b.orders, o.slot = i

theorem accountsLaw_iff {s : State} : AccountsLaw s ↔ Agrees (fun _ => False) (claims s) s.book := by
  constructor
  · intro h
    refine ⟨fun o ho => ⟨fun i => ?_, (h.byLayer o ho).left, fun l => ?_, h.byWeight o ho,
      h.quantities o ho, h.budgets o ho⟩, fun o ho hne => .inl (h.states o ho hne), h.known⟩
    · rw [List.countP_eq_length_filter]
      exact h.byLine o ho i
    · rw [List.countP_eq_length_filter]
      exact (h.byLayer o ho).right l
  · intro h
    refine ⟨fun o ho i => ?_, fun o ho => ⟨(h.balanced o ho).layers, fun l => ?_⟩,
      fun o ho => (h.balanced o ho).byWeight, fun o ho => (h.balanced o ho).quantities,
      fun o ho => (h.balanced o ho).budget, fun o ho hne => (h.states o ho hne).resolve_right id,
      h.known⟩
    · rw [← List.countP_eq_length_filter]
      exact (h.balanced o ho).byLine i
    · rw [← List.countP_eq_length_filter]
      exact (h.balanced o ho).byLayer l

namespace Agrees
variable {ex : Nat → Prop} {cl cl' : Nat → List Claim} {b c : OrderBook}

theorem perm (h : Agrees ex cl b) (hperm : ∀ i, (cl' i).Perm (cl i)) : Agrees ex cl' b where
  balanced o ho := (h.balanced o ho).perm (hperm o.slot)
  states o ho hne := h.states o ho fun hnil => hne ((hnil ▸ hperm o.slot).eq_nil)
  known i hne := h.known i fun hnil => hne ((hnil ▸ hperm i).eq_nil)

/-- A book whose orders are changed one by one, each in its slot. -/
theorem map (h : Agrees ex cl b) {g : Order → Order} (horders : c.orders = b.orders.map g)
    (hslot : ∀ o ∈ b.orders, (g o).slot = o.slot)
    (hbalanced : ∀ o ∈ b.orders, Balanced (cl o.slot) o → Balanced (cl' o.slot) (g o))
    (hstates : ∀ o ∈ b.orders, cl' o.slot ≠ [] → (cl o.slot ≠ [] → o.state.live ∨ ex o.slot) →
      (g o).state.live ∨ ex o.slot)
    (hknown : ∀ i, cl' i ≠ [] → ∃ o ∈ b.orders, o.slot = i) : Agrees ex cl' c where
  balanced x hx := by
    obtain ⟨o, ho, rfl⟩ := List.mem_map.mp (horders ▸ hx)
    rw [hslot o ho]
    exact hbalanced o ho (h.balanced o ho)
  states x hx hne := by
    obtain ⟨o, ho, rfl⟩ := List.mem_map.mp (horders ▸ hx)
    rw [hslot o ho] at hne ⊢
    exact hstates o ho hne (h.states o ho)
  known i hne := by
    obtain ⟨o, ho, hi⟩ := hknown i hne
    exact ⟨g o, horders ▸ List.mem_map_of_mem ho, (hslot o ho).trans hi⟩

/-- A change of one order that leaves its accounts, and its state where there are claims on it. -/
theorem change (h : Agrees ex cl b) (slot : Nat) {f : Order → Order}
    (hf : ∀ o : Order, (f o).slot = o.slot ∧ (f o).lines = o.lines ∧
      (f o).layerCounts = o.layerCounts ∧ (f o).reservedWeight = o.reservedWeight ∧
      (f o).placedWeight = o.placedWeight ∧ (f o).budget = o.budget)
    (hstate : ∀ o ∈ b.orders, o.slot = slot → cl o.slot ≠ [] → o.state.live ∨ ex o.slot →
      (f o).state.live ∨ ex o.slot)
    (horders : c.orders = b.orders.map fun o => if o.slot = slot then f o else o) :
    Agrees ex cl c := by
  refine h.map horders (fun o _ => ?_) (fun o _ hb => ?_) (fun o ho hne hs => ?_) h.known
  · split
    · exact (hf o).left
    · rfl
  · split
    · obtain ⟨-, h1, h2, h3, h4, h5⟩ := hf o
      exact hb.of_eq h1 h2 h3 h4 h5
    · exact hb
  · split
    · exact hstate o ho ‹_› hne (hs hne)
    · exact hs hne

/-- The claims with one more on a slot. -/
def withClaim (k : Nat) (c : Claim) (cl : Nat → List Claim) : Nat → List Claim := fun i =>
  if i = k then c :: cl i else cl i

/-- A change of one order's accounts by which a claim goes. -/
theorem drop {k : Nat} {d : Claim} (h : Agrees ex (withClaim k d cl) b) {f : Order → Order}
    (hf : ∀ o : Order, (f o).slot = o.slot ∧ (f o).state = o.state)
    (hbalanced : ∀ o : Order, ∀ cs, Balanced (d :: cs) o → Balanced cs (f o)) :
    Agrees ex cl (b.change k f) := by
  refine h.map rfl (fun o _ => ?_) (fun o _ hb => ?_) (fun o _ hne hs => ?_) fun i hne => h.known i ?_
  · split
    · exact (hf o).left
    · rfl
  · rw [withClaim] at hb
    split
    · rename_i heq
      rw [if_pos heq] at hb
      exact hbalanced o _ hb
    · rename_i heq
      rwa [if_neg heq] at hb
  · have hne' : withClaim k d cl o.slot ≠ [] := by
      rw [withClaim]
      split
      · exact List.cons_ne_nil _ _
      · exact hne
    split
    · rw [(hf o).right]
      exact hs hne'
    · exact hs hne'
  · rw [withClaim]
    split
    · exact List.cons_ne_nil _ _
    · exact hne

/-- An order all of whose reserved counts are 0 enters COMPLETE, R16. -/
theorem complete (h : Agrees ex cl b) (hslots : b.Slotted) {o : Order} (ho : o ∈ b.orders)
    (hzero : ∀ l ∈ o.lines, l.reserved = 0) (short : Bool) :
    Agrees ex cl (b.change o.slot fun x => { x with state := .complete, short := short }) := by
  refine h.change o.slot (f := fun x => { x with state := .complete, short := short })
    (fun _ => ⟨rfl, rfl, rfl, rfl, rfl, rfl⟩) (fun x hx hslot hne _ => ?_) rfl
  rw [OrderBook.eq_of_slot_eq hslots hx ho hslot] at hne
  exact absurd ((h.balanced o ho).nil_of_reservations hzero) hne

end Agrees

theorem reserved_of_filled {cs : List Claim} {o : Order} (h : Balanced cs o) (hfilled : o.filled = true) :
    ∀ l ∈ o.lines, l.reserved = 0 := fun l hl => by
  have hq := h.quantities l hl
  have hp := List.all_eq_true.mp hfilled l hl
  simp only [beq_iff_eq] at hp
  omega

theorem reserved_of_reservations {o : Order} (h : o.reservations = 0) :
    ∀ l ∈ o.lines, l.reserved = 0 := fun l hl => by
  rw [Order.reservations, List.sum_eq_zero_iff_forall_eq_nat] at h
  exact h _ (List.mem_map_of_mem hl)

/-- The law of the book and the accounts against given claims. -/
structure Accounted (ex : Nat → Prop) (cl : Nat → List Claim) (b : OrderBook) : Prop where
  sound : b.Sound
  agrees : Agrees ex cl b

namespace Accounted
variable {ex : Nat → Prop} {cl : Nat → List Claim} {s : State}

theorem completeCheck (h : Accounted ex cl s.book) (slot : Nat) :
    Accounted ex cl (completeCheck slot s).book := by
  refine ⟨completeCheck_sound slot h.sound, ?_⟩
  rcases completeCheck_spec slot s with heq | ⟨o, short, ho, hstate, heq⟩ <;> rw [heq]
  · exact h.agrees
  · have hmem := (OrderBook.atSlot_mem ho).left
    rw [enterComplete_book]
    refine h.agrees.complete h.sound.slots hmem ?_ short
    rcases hstate with ⟨-, hfilled, -⟩ | ⟨-, hzero, -⟩
    · exact reserved_of_filled (h.agrees.balanced o hmem) hfilled
    · exact reserved_of_reservations hzero

theorem release {k : Nat} {c : Claim} (h : Accounted ex (Agrees.withClaim k c cl) s.book) :
    Accounted ex cl (release k c.line c.grams c.layer s).book :=
  Accounted.completeCheck (s := s.onBook fun b => b.change k fun o => o.release c.line c.grams c.layer)
    ⟨h.sound.change k fun o _ _ => release_akin o _ _ _,
      h.agrees.drop (fun _ => ⟨rfl, rfl⟩) fun _ _ hb => hb.release⟩ k

theorem confirm {k : Nat} {c : Claim} (h : Accounted ex (Agrees.withClaim k c cl) s.book) :
    Accounted ex cl (confirm k c.line c.grams c.layer s).book :=
  Accounted.completeCheck (s := s.onBook fun b => b.change k fun o => o.confirm c.line c.grams c.layer)
    ⟨h.sound.change k fun o _ _ => confirm_akin o _ _ _,
      h.agrees.drop (fun _ => ⟨rfl, rfl⟩) fun _ _ hb => hb.confirm⟩ k

end Accounted

end Sys2Proof.Machine
end

section
/-! PROOFS. The reservation accounts agree with the items that hold them after every step: each act moves the claims
of its items as it changes the accounts. -/

namespace Sys2Proof.Machine

/-! ### Lists -/

theorem changeFirst_of_split {α : Type} {p : α → Bool} (g : α → α) {l₁ l₂ : List α} {x : α}
    (hx : p x = true) (hnot : ∀ y ∈ l₁, p y = false) :
    changeFirst p g (l₁ ++ x :: l₂) = l₁ ++ g x :: l₂ := by
  induction l₁ with
  | nil => simp [changeFirst, hx]
  | cons y l₁ ih =>
    rw [List.cons_append, changeFirst, hnot y List.mem_cons_self,
      ih fun z hz => hnot z (List.mem_cons_of_mem _ hz)]
    rfl

theorem find?_split {α : Type} {p : α → Bool} {e : α} {l : List α} (h : l.find? p = some e) :
    ∃ l₁ l₂, l = l₁ ++ e :: l₂ ∧ p e = true ∧ ∀ y ∈ l₁, p y = false := by
  obtain ⟨he, l₁, l₂, rfl, hnot⟩ := List.find?_eq_some_iff_append.mp h
  exact ⟨l₁, l₂, rfl, he, fun y hy => by simpa using hnot y hy⟩

section
variable {α β : Type} {f : α → Option β} {g : α → α} {p : α → Bool}

/-- What the elements that a change selects give up. -/
theorem filter_append_map_perm (hpos : ∀ x, p x = true → f (g x) = none)
    (hneg : ∀ x, p x = false → f (g x) = f x) (l : List α) :
    ((l.filter p).filterMap f ++ (l.map g).filterMap f).Perm (l.filterMap f) := by
  induction l with
  | nil => exact .nil
  | cons x l ih =>
    rcases hx : p x with _ | _
    · rw [List.filter_cons_of_neg (by simp [hx]), List.map_cons, List.filterMap_cons (f := f),
        List.filterMap_cons (f := f), hneg x hx]
      rcases f x with _ | y
      · exact ih
      · exact List.perm_middle.trans (ih.cons y)
    · rw [List.filter_cons_of_pos hx, List.map_cons, List.filterMap_cons (f := f),
        List.filterMap_cons (f := f), List.filterMap_cons (f := f), hpos x hx]
      rcases f x with _ | y
      · exact ih
      · exact ih.cons y

theorem filterMap_filter_eq (h : ∀ x, p x = false → f x = none) (l : List α) :
    (l.filter p).filterMap f = l.filterMap f := by
  induction l with
  | nil => rfl
  | cons x l ih =>
    rcases hx : p x with _ | _
    · rw [List.filter_cons_of_neg (by simp [hx]), List.filterMap_cons_none (h x hx), ih]
    · rw [List.filter_cons_of_pos hx, List.filterMap_cons, List.filterMap_cons, ih]

theorem filterMap_changeFirst_eq (h : ∀ x, p x = true → f (g x) = f x) (l : List α) :
    (changeFirst p g l).filterMap f = l.filterMap f := by
  rcases hany : l.any p with _ | _
  · rw [changeFirst_of_none g hany]
  · obtain ⟨l₁, x, l₂, rfl, hx, -, heq⟩ := changeFirst_split g hany
    rw [heq, List.filterMap_append, List.filterMap_append, List.filterMap_cons, List.filterMap_cons,
      h x hx]

theorem changeFirst_perm (h : ∀ x, p x = true → f (g x) = none) {e : α} {l : List α}
    (he : l.find? p = some e) :
    ([e].filterMap f ++ (changeFirst p g l).filterMap f).Perm (l.filterMap f) := by
  obtain ⟨l₁, l₂, rfl, hpe, hnot⟩ := find?_split he
  rw [changeFirst_of_split g hpe hnot, List.filterMap_append, List.filterMap_append,
    List.filterMap_cons_none (h e hpe), List.filterMap_cons (f := f), List.filterMap_cons (f := f)]
  rcases f e with _ | y
  · exact .refl _
  · exact (List.perm_middle (a := y) (l₁ := l₁.filterMap f) (l₂ := l₂.filterMap f)).symm

theorem eraseP_perm {e : α} {l : List α} (he : l.find? p = some e) :
    ([e].filterMap f ++ (l.eraseP p).filterMap f).Perm (l.filterMap f) := by
  obtain ⟨l₁, l₂, rfl, hpe, hnot⟩ := find?_split he
  rw [List.eraseP_append_right _ (fun b hb => by simp [hnot b hb]), List.eraseP_cons_of_pos hpe,
    List.filterMap_append, List.filterMap_append, List.filterMap_cons (f := f),
    List.filterMap_cons (f := f)]
  rcases f e with _ | y
  · exact .refl _
  · exact (List.perm_middle (a := y) (l₁ := l₁.filterMap f) (l₂ := l₂.filterMap f)).symm

theorem filterMap_eraseP_eq (h : ∀ x, p x = true → f x = none) (l : List α) :
    (l.eraseP p).filterMap f = l.filterMap f := by
  rcases he : l.find? p with _ | e
  · rw [List.eraseP_of_forall_not (fun y hy => List.find?_eq_none.mp he y hy)]
  · obtain ⟨l₁, l₂, rfl, hpe, hnot⟩ := find?_split he
    rw [List.eraseP_append_right _ (fun b hb => by simp [hnot b hb]), List.eraseP_cons_of_pos hpe,
      List.filterMap_append, List.filterMap_append, List.filterMap_cons_none (h e hpe)]

end

/-! ### Claims -/

/-- The claim that a PLACE entry makes on a line while it is SCHEDULED or FIRED. -/
def Entry.claimOn (line : Nat) (e : Entry) : Claim :=
  { line := line, grams := (e.weight.map (·.grams)).getD 0, layer := e.layer.getD 0 }

/-- The claim that a PUT chute entry makes on a line. -/
def ChuteEntry.claimOn (line : Nat) (e : ChuteEntry) : Claim :=
  { line := line, grams := (e.weight.map (·.grams)).getD 0, layer := e.layer.getD 0 }

theorem claim_of_place {e : Entry} {n : Lane} {position k line : Nat} {kind : Kind}
    (hdest : e.dest = .place n position k line kind) (hheld : (e.isScheduled || e.isFired) = true)
    (i : Nat) : e.claim i = if i = k then some (e.claimOn line) else none := by
  simp only [Entry.claim, hdest, hheld, and_true, Entry.claimOn, eq_comm]

theorem claim_of_not_place {e : Entry} (h : e.dest.isPlace = false) (i : Nat) : e.claim i = none := by
  unfold Entry.claim
  split
  · rename_i hdest
    rw [hdest] at h
    cases h
  · rfl

theorem claim_of_not_held {e : Entry} (h : (e.isScheduled || e.isFired) = false) (i : Nat) :
    e.claim i = none := by
  unfold Entry.claim
  split
  · rw [if_neg (by simp [h])]
  · rfl

theorem claim_of_outbound {e : Entry} {r : OutboundReason} (h : e.state = .outbound r) (i : Nat) :
    e.claim i = none :=
  claim_of_not_held (by simp [Entry.isScheduled, Entry.isFired, h]) i

theorem claim_of_not_holds {e : Entry} (h : e.holdsReservation = false) (i : Nat) :
    e.claim i = none := by
  rcases hp : e.dest.isPlace with _ | _
  · exact claim_of_not_place hp i
  · exact claim_of_not_held (by simpa [Entry.holdsReservation, hp] using h) i

theorem chuteClaim_of_put {e : ChuteEntry} {position k line : Nat} (hkind : e.kind = .put position k line)
    (i : Nat) : e.claim i = if i = k then some (e.claimOn line) else none := by
  simp only [ChuteEntry.claim, hkind, ChuteEntry.claimOn, eq_comm]

theorem chuteClaim_of_not_put {e : ChuteEntry} (h : ∀ position k line, e.kind ≠ .put position k line)
    (i : Nat) : e.claim i = none := by
  unfold ChuteEntry.claim
  split
  · exact absurd ‹_› (h _ _ _)
  · rfl

/-- The claims of the chute lists on a slot. -/
def chuteClaims (v : PerLane (List ChuteEntry)) (i : Nat) : List Claim :=
  v.toList.flatten.filterMap (ChuteEntry.claim i)

theorem claims_eq (s : State) (i : Nat) :
    claims s i = s.divert.queue.filterMap (Entry.claim i) ++ chuteClaims s.wall.chutes i := rfl

theorem claims_congr {s t : State} (hqueue : t.divert.queue = s.divert.queue)
    (hchutes : t.wall.chutes = s.wall.chutes) : claims t = claims s := by
  funext i
  rw [claims_eq, claims_eq, hqueue, hchutes]

theorem BookOnly.claims_eq {s t : State} (h : BookOnly s t) : claims t = claims s := by
  obtain ⟨b, l, u, rfl⟩ := h
  rfl

/-- A chute list is replaced by another. -/
theorem chuteClaims_set (v : PerLane (List ChuteEntry)) (n : Lane) (l : List ChuteEntry) (i : Nat) :
    ((v.get n).filterMap (ChuteEntry.claim i) ++ chuteClaims (v.set n l) i).Perm
      (l.filterMap (ChuteEntry.claim i) ++ chuteClaims v i) := by
  refine List.perm_iff_count.mpr fun c => ?_
  cases n <;>
    simp only [chuteClaims, PerLane.toList, allLanes, List.map_cons, List.map_nil, List.flatten_cons,
      List.flatten_nil, List.append_nil, PerLane.get_set, reduceCtorEq, reduceIte,
      List.filterMap_append, List.count_append] <;>
    omega

theorem chuteClaims_map (v : PerLane (List ChuteEntry)) (g : ChuteEntry → ChuteEntry) (i : Nat) :
    chuteClaims (v.map fun l => l.map g) i =
      ((v.toList.flatten).map g).filterMap (ChuteEntry.claim i) := by
  rw [chuteClaims, List.map_flatten]
  simp [PerLane.toList, Function.comp_def]

/-! ### Runs of releases -/

namespace Accounted
variable {ex : Nat → Prop} {cl cl' : Nat → List Claim} {s : State} {b : OrderBook}

theorem perm (h : Accounted ex cl b) (hperm : ∀ i, (cl' i).Perm (cl i)) : Accounted ex cl' b :=
  ⟨h.sound, h.agrees.perm hperm⟩

theorem releaseEntry {e : Entry} (hheld : (e.isScheduled || e.isFired) = true)
    (h : Accounted ex (fun i => [e].filterMap (Entry.claim i) ++ cl i) s.book) :
    Accounted ex cl (releaseEntry e s).book := by
  rcases hdest : e.dest with ⟨n, position, k, line, kind⟩ | n | r | r
  case place =>
    rw [Machine.releaseEntry, hdest]
    refine Accounted.release (c := e.claimOn line) (h.perm fun i => .of_eq ?_)
    rw [List.filterMap_cons, claim_of_place hdest hheld, Agrees.withClaim]
    split <;> rfl
  all_goals
    have hnone : ∀ i, [e].filterMap (Entry.claim i) = [] := fun i =>
      List.filterMap_cons_none (claim_of_not_place (by rw [hdest]; rfl) i)
    rw [Machine.releaseEntry, hdest]
    exact h.perm fun i => .of_eq (by rw [hnone i]; rfl)

theorem releases {l : List Entry} (hheld : ∀ e ∈ l, (e.isScheduled || e.isFired) = true)
    (h : Accounted ex (fun i => l.filterMap (Entry.claim i) ++ cl i) s.book) :
    Accounted ex cl (l.foldl (fun t e => Machine.releaseEntry e t) s).book := by
  induction l generalizing s with
  | nil => exact h
  | cons e l ih =>
    refine ih (fun x hx => hheld x (List.mem_cons_of_mem _ hx))
      (releaseEntry (hheld e List.mem_cons_self) (h.perm fun i => .of_eq ?_))
    rw [← List.append_assoc, ← List.filterMap_append]
    rfl

theorem releaseChute {e : ChuteEntry}
    (h : Accounted ex (fun i => [e].filterMap (ChuteEntry.claim i) ++ cl i) s.book) :
    Accounted ex cl (releaseChute e s).book := by
  rcases hkind : e.kind with ⟨position, k, line⟩ | _ | _
  case put =>
    rw [Machine.releaseChute, hkind]
    refine Accounted.release (c := e.claimOn line) (h.perm fun i => .of_eq ?_)
    rw [List.filterMap_cons, chuteClaim_of_put hkind, Agrees.withClaim]
    split <;> rfl
  all_goals
    have hnone : ∀ i, [e].filterMap (ChuteEntry.claim i) = [] := fun i =>
      List.filterMap_cons_none (chuteClaim_of_not_put (by rw [hkind]; exact nofun) i)
    rw [Machine.releaseChute, hkind]
    exact h.perm fun i => .of_eq (by rw [hnone i]; rfl)

theorem chuteReleases {l : List ChuteEntry}
    (h : Accounted ex (fun i => l.filterMap (ChuteEntry.claim i) ++ cl i) s.book) :
    Accounted ex cl (l.foldl (fun t e => Machine.releaseChute e t) s).book := by
  induction l generalizing s with
  | nil => exact h
  | cons e l ih =>
    refine ih (releaseChute (h.perm fun i => .of_eq ?_))
    rw [← List.append_assoc, ← List.filterMap_append]
    rfl

/-! ### The binder, promotion, and slots that fill and empty -/

theorem bind (h : Accounted ex cl b) (k : Nat) {n : Lane} {p : Nat} (hfree : b.boundAt n p = none)
    (hp : 1 ≤ p ∧ p ≤ 15) : Accounted ex cl (b.bind k n p) := by
  refine ⟨h.sound.bind k hfree hp, ?_⟩
  exact h.agrees.change k (f := fun o => { o with state := .opened, position := some (n, p) })
    (fun _ => ⟨rfl, rfl, rfl, rfl, rfl, rfl⟩) (fun _ _ _ _ _ => .inl (.inl rfl)) rfl

theorem binder (h : Accounted ex cl b) (enabled : Lane → Bool) (classes : Lane → Mask)
    {l : List (Lane × Nat)} (hl : ∀ x ∈ l, x ∈ hamperPositions) :
    Accounted ex cl (l.foldl (bindStep enabled classes) b) := by
  induction l generalizing b with
  | nil => exact h
  | cons x l ih =>
    obtain ⟨n, p⟩ := x
    refine ih ?_ fun y hy => hl y (List.mem_cons_of_mem _ hy)
    rcases OrderBook.bindStep_cases enabled classes b n p with heq | ⟨k, -, hfree, -, heq⟩ <;> rw [heq]
    · exact h
    · exact h.bind k hfree (OrderBook.mem_hamperPositions.mp (hl _ List.mem_cons_self))

theorem runBinder (h : Accounted ex cl s.book) : Accounted ex cl (runBinder s).book :=
  h.binder _ _ fun _ hx => hx

theorem enqueue (h : Accounted (fun _ => False) cl b) {o : Order} (ho : o ∈ b.orders)
    (hstate : o.state = .staged) : Accounted (fun _ => False) cl (b.enqueue o) := by
  refine ⟨h.sound.enqueue ho hstate, ?_⟩
  refine h.agrees.change o.slot (f := fun x => { x with state := .queued })
    (fun _ => ⟨rfl, rfl, rfl, rfl, rfl, rfl⟩) (fun x hx hslot _ hlive => ?_) rfl
  rw [OrderBook.eq_of_slot_eq h.sound.slots hx ho hslot, hstate] at hlive
  rcases hlive with (hs | hs) | hs <;> cases hs

theorem promoted (h : Accounted (fun _ => False) cl b) {l : List Order} (hl : ∀ o ∈ l, o ∈ b.orders)
    (hstaged : ∀ o ∈ l, o.state = .staged) (hslots : l.Pairwise fun x y => x.slot < y.slot) :
    Accounted (fun _ => False) cl (l.foldl OrderBook.enqueue b) := by
  induction l generalizing b with
  | nil => exact h
  | cons o l ih =>
    obtain ⟨hfirst, hrest⟩ := List.pairwise_cons.mp hslots
    refine ih (h.enqueue (hl o List.mem_cons_self) (hstaged o List.mem_cons_self))
      (fun x hx => ?_) (fun x hx => hstaged x (List.mem_cons_of_mem _ hx)) hrest
    refine OrderBook.mem_change.mpr ⟨x, hl x (List.mem_cons_of_mem _ hx), if_neg ?_⟩
    exact Nat.ne_of_gt (hfirst x hx)

theorem promote (h : Accounted (fun _ => False) cl s.book) :
    Accounted (fun _ => False) cl (promote s).book := by
  unfold Machine.promote
  split
  · exact h
  · exact Accounted.runBinder (s := s.onBook fun b => b.staged.foldl OrderBook.enqueue b)
      (h.promoted (fun o ho => (mem_staged.mp ho).left) (fun o ho => (mem_staged.mp ho).right)
        (h.sound.slots.sublist List.filter_sublist))

theorem empty (h : Accounted (fun _ => False) cl b) {o : Order} (ho : o ∈ b.orders)
    (hstate : o.state ≠ .opened ∧ o.state ≠ .shorting) : Accounted (fun _ => False) cl (b.empty o) := by
  refine ⟨h.sound.empty ho, fun x hx => h.agrees.balanced x (OrderBook.mem_empty.mp hx).left,
    fun x hx => h.agrees.states x (OrderBook.mem_empty.mp hx).left, fun i hne => ?_⟩
  obtain ⟨x, hx, rfl⟩ := h.agrees.known i hne
  refine ⟨x, OrderBook.mem_empty.mpr ⟨hx, fun hslot => ?_⟩, rfl⟩
  have hlive := h.agrees.states x hx hne
  rw [OrderBook.eq_of_slot_eq h.sound.slots hx ho hslot] at hlive
  rcases hlive with (hs | hs) | hs
  · exact hstate.left hs
  · exact hstate.right hs
  · exact hs

theorem enter (h : Accounted ex cl s.book) {o : Order} (ho : o.Fresh s) :
    Accounted ex cl (s.book.enter o) := by
  have hnil : cl o.slot = [] := by
    refine Classical.byContradiction fun hne => ?_
    obtain ⟨x, hx, hslot⟩ := h.agrees.known _ hne
    exact ho.alone x hx hslot
  have hfresh : Balanced [] o := by
    obtain ⟨hreserved, hplaced⟩ := ho.weights
    refine ⟨fun i => ?_, by rw [ho.layers]; rfl, fun l => ?_, hreserved, fun l hl => ?_, ?_⟩
    · rcases hi : o.lines[i]? with _ | l
      · rfl
      · exact (ho.lines l (List.mem_of_getElem? hi)).left
    · rw [ho.layers]
      rcases l with _ | _ | _ | _ | l <;> rfl
    · obtain ⟨h1, h2⟩ := ho.lines l hl
      omega
    · omega
  refine ⟨h.sound.enter ho, fun x hx => ?_, fun x hx hne => ?_, fun i hne => ?_⟩
  · rcases OrderBook.mem_enter.mp hx with rfl | hx
    · rw [hnil]
      exact hfresh
    · exact h.agrees.balanced x hx
  · rcases OrderBook.mem_enter.mp hx with rfl | hx
    · exact absurd hnil hne
    · exact h.agrees.states x hx hne
  · obtain ⟨x, hx, hslot⟩ := h.agrees.known i hne
    exact ⟨x, OrderBook.mem_enter.mpr (.inr hx), hslot⟩

end Accounted

end Sys2Proof.Machine
end

section
/-! PROOFS. Every act keeps the accounts in agreement with the claims, and so does every step. -/

namespace Sys2Proof.Machine

/-- The law of the book and that of the accounts. -/
abbrev Accounts (s : State) : Prop := Accounted (fun _ => False) (claims s) s.book

theorem accounts_iff {s : State} : Accounts s ↔ BookLaw s ∧ AccountsLaw s :=
  ⟨fun h => ⟨bookLaw_iff.mpr h.sound, accountsLaw_iff.mpr h.agrees⟩,
    fun h => ⟨bookLaw_iff.mp h.left, accountsLaw_iff.mp h.right⟩⟩

namespace Accounts
variable {s t : State}

theorem of_eq (h : Accounts s) (hbook : t.book = s.book) (hqueue : t.divert.queue = s.divert.queue)
    (hchutes : t.wall.chutes = s.wall.chutes) : Accounts t := by
  rw [Accounts, hbook, claims_congr hqueue hchutes]
  exact h

/-- An act of the book alone. -/
theorem of_book (h : Accounted (fun _ => False) (claims s) t.book)
    (hqueue : t.divert.queue = s.divert.queue) (hchutes : t.wall.chutes = s.wall.chutes) :
    Accounts t := by
  rw [Accounts, claims_congr hqueue hchutes]
  exact h

/-- An act of the belt queue and the chutes that moves no claim. -/
theorem of_perm (h : Accounts s) (hbook : t.book = s.book)
    (hperm : ∀ i, (claims t i).Perm (claims s i)) : Accounts t := by
  rw [Accounts, hbook]
  exact h.perm hperm

theorem of_queue (h : Accounts s) (hbook : t.book = s.book)
    (hqueue : ∀ i, t.divert.queue.filterMap (Entry.claim i) = s.divert.queue.filterMap (Entry.claim i))
    (hchutes : t.wall.chutes = s.wall.chutes) : Accounts t :=
  h.of_perm hbook fun i => .of_eq (by rw [claims_eq, claims_eq, hqueue i, hchutes])

/-! ### The belt queue -/

theorem gaveUp (h : Accounts s) {p : Entry → Bool} (hp : ∀ e, p e = true → e.isScheduled = true)
    (reason : OutboundReason) : Accounts (giveUp p reason s) := by
  rw [Accounts, (giveUp_bookOnly p reason s).claims_eq, giveUp_eq]
  refine Accounted.releases (fun e he => ?_) (Accounted.perm (b := s.book) h fun i => ?_)
  · rw [hp e (List.mem_filter.mp he).right]
    rfl
  · rw [claims_eq, claims_eq, ← List.append_assoc]
    refine List.Perm.append_right _ (filter_append_map_perm (fun e he => ?_) (fun e he => ?_) _)
    · rw [if_pos he]
      exact claim_of_outbound rfl i
    · rw [if_neg (by simp [he])]

/-- A claim rests on what the entry carries, and on that it is held. -/
theorem claim_congr {e x : Entry} (hdest : x.dest = e.dest) (hweight : x.weight = e.weight)
    (hlayer : x.layer = e.layer)
    (hheld : (x.isScheduled || x.isFired) = (e.isScheduled || e.isFired)) (i : Nat) :
    x.claim i = e.claim i := by
  simp only [Entry.claim, hdest, hweight, hlayer, hheld]

theorem fired (h : Accounts s) (a : Arm) : Accounts (fireArm a s) := by
  rcases fireArm_cases a s with heq | ⟨-, heq⟩ <;> rw [heq]
  · exact h
  · refine h.of_queue rfl (fun i => filterMap_changeFirst_eq (fun e he => ?_) _) rfl
    simp only [Entry.fireDue, Entry.scheduledOn, Bool.and_eq_true] at he
    refine claim_congr (e := e) (x := { e with state := .fired s.p _ }) rfl rfl rfl ?_ i
    rw [he.left.right]
    rfl

theorem missed (h : Accounts s) (tag : Tag) : Accounts (missEntry tag s) := by
  rcases missEntry_cases tag s with heq | ⟨e, he, heq⟩
  · rw [heq]
    exact h
  have hdue := List.find?_some he
  have hfired : e.isFired = true := by
    unfold Entry.missDue at hdue
    split at hdue
    · simp [Entry.isFired, ‹e.state = _›]
    · cases hdue
  have hclaims : claims (missEntry tag s) = claims (missedState tag s) := by
    rw [heq, (releaseEntry_bookOnly e _).claims_eq]
    exact claims_congr (by simp) (by simp)
  rw [Accounts, hclaims, heq]
  refine Accounted.releaseEntry (by rw [hfired, Bool.or_true]) ?_
  have hbook : (count .misses (report (missReport e (missedState tag s)) (missedState tag s))).book =
      s.book := by simp [missedState, changeEntry]
  rw [hbook]
  refine Accounted.perm (b := s.book) h fun i => ?_
  rw [claims_eq, claims_eq, ← List.append_assoc]
  exact List.Perm.append_right _ (changeFirst_perm (fun x _ => claim_of_outbound rfl i) he)

theorem left (h : Accounts s) (tag : Tag) : Accounts (removeEntry (Entry.exitDue tag s.p) s) := by
  refine h.of_queue rfl (fun i => filterMap_eraseP_eq (fun e he => ?_) _) rfl
  unfold Entry.exitDue at he
  split at he
  · exact claim_of_outbound ‹_› i
  · cases he

theorem claim_chuteEntry {e : Entry} (hfired : e.isFired = true) (i : Nat) :
    e.chuteEntry.claim i = e.claim i := by
  rcases hdest : e.dest with ⟨n, position, k, line, kind⟩ | n | r | r
  case place =>
    rw [claim_of_place hdest (by rw [hfired, Bool.or_true]),
      chuteClaim_of_put (by rw [Entry.chuteEntry, hdest])]
    rfl
  all_goals
    rw [claim_of_not_place (by rw [hdest]; rfl), chuteClaim_of_not_put]
    rw [Entry.chuteEntry, hdest]
    exact nofun

theorem filterMap_arrive (e : ChuteEntry) (l : List ChuteEntry) (i : Nat) :
    (arrive e l).filterMap (ChuteEntry.claim i) =
      l.filterMap (ChuteEntry.claim i) ++ [e].filterMap (ChuteEntry.claim i) := by
  have hstray : ∀ x : ChuteEntry, (x.kind == .stray) = true → x.claim i = none := fun x hx =>
    chuteClaim_of_not_put (by rw [beq_iff_eq.mp hx]; exact nofun) i
  unfold arrive
  split
  · rw [List.filterMap_append]
  · rw [List.filterMap_append, filterMap_eraseP_eq hstray]

/-- A confirmed entry takes its claim with it to its chute, R15 and R94. -/
theorem confirmed (h : Accounts s) {a : Arm} {e : Entry}
    (he : s.divert.queue.find? (Entry.awaits a) = some e) : Accounts (passToChute a e s) := by
  have hawaits := List.find?_some he
  simp only [Entry.awaits, Bool.and_eq_true, beq_iff_eq] at hawaits
  obtain ⟨harm, hfired⟩ := hawaits
  cases a with
  | reject =>
    refine h.of_queue rfl (fun i => filterMap_eraseP_eq (fun x hx => ?_) _) rfl
    simp only [Entry.awaits, Bool.and_eq_true, beq_iff_eq] at hx
    refine claim_of_not_place ?_ i
    rcases hdest : x.dest with _ | _ | _ | _
    · rw [hdest] at hx
      cases hx.left
    all_goals rfl
  | lane n =>
    refine h.of_perm rfl fun i => ?_
    have hqueue := eraseP_perm (f := Entry.claim i) he
    have hset := chuteClaims_set s.wall.chutes n (arrive e.chuteEntry (s.wall.chutes.get n)) i
    have hsame : [e.chuteEntry].filterMap (ChuteEntry.claim i) = [e].filterMap (Entry.claim i) := by
      rw [List.filterMap_cons, List.filterMap_cons, claim_chuteEntry hfired]
      rfl
    rw [filterMap_arrive, hsame] at hset
    rw [List.perm_iff_count] at hqueue hset ⊢
    intro c
    have hq := hqueue c
    have hs := hset c
    rw [claims_eq, claims_eq]
    simp only [List.count_append] at hq hs ⊢
    simp only [passToChute, chuteArrival, setChute, removeEntry, onWall_divert, onDivert_divert,
      onWall_wall, onDivert_wall]
    omega

theorem strayed (h : Accounts s) (n : Lane) : Accounts (strayArrival n s) := by
  refine h.of_perm rfl fun i => ?_
  have hset := chuteClaims_set s.wall.chutes n (arriveStray (s.wall.chutes.get n)) i
  have hsame : (arriveStray (s.wall.chutes.get n)).filterMap (ChuteEntry.claim i) =
      (s.wall.chutes.get n).filterMap (ChuteEntry.claim i) := by
    unfold arriveStray
    split
    · rw [List.filterMap_append, List.filterMap_cons_none rfl]
      exact List.append_nil _
    · rfl
  rw [hsame] at hset
  exact List.Perm.append_left _ ((List.perm_append_left_iff _).mp hset)

theorem joinBelt (h : Accounts s) {e : Entry} (he : ∀ i, e.claim i = none) : Accounts (joinBelt e s) := by
  refine h.of_queue rfl (fun i => ?_) rfl
  simp [Machine.joinBelt, he i]

/-- A winner's item claims a unit of its line, R11. -/
theorem placed (h : Accounts s) (hcatalogue : CatalogueLaw s) {c : Candidate} {x : Subject} {e : Entry}
    (hx : x.Known s) (hc : c ∈ candidates s x.product.group) (hq : c.qualifies s x = true)
    (hdest : e.dest = .place c.lane c.position c.order.slot c.line c.kind)
    (hstate : e.state = .scheduled (c.fire s x.entry.lead)) (hweight : e.weight = x.entry.weight)
    (hlayer : e.layer = x.entry.layer) :
    Accounts (Machine.joinBelt e (reserve c.order.slot c.line x.grams x.product.layer s)) := by
  obtain ⟨hmem, hline⟩ := mem_candidates_iff.mp hc
  obtain ⟨-, hopen, -, -, l, hl, hkind⟩ := mem_orderCandidates_iff.mp hline
  have hremaining : l.remaining ≠ 0 := by
    intro hzero
    rw [RecipeLine.kindFor, if_pos hzero] at hkind
    cases hkind
  simp only [Candidate.qualifies, Candidate.passesRest, Candidate.weightFits, Bool.and_eq_true,
    decide_eq_true_eq] at hq
  obtain ⟨-, ⟨⟨⟨⟨hfits, -⟩, -⟩, -⟩, -⟩, -⟩ := hq
  have hproduct := (hcatalogue.fields _ hx.product).right.right.right.left
  have hgrams : (e.weight.map (·.grams)).getD 0 = x.grams := by rw [hweight, hx.grams]; rfl
  have hlayer' : e.layer.getD 0 = x.product.layer := by rw [hlayer, hx.layer]; rfl
  have hclaim : ∀ i, e.claim i = if i = c.order.slot then some (e.claimOn c.line) else none :=
    claim_of_place hdest (by simp [Entry.isScheduled, hstate])
  have hreserve : Agrees (fun _ => False) (Agrees.withClaim c.order.slot (e.claimOn c.line) (claims s))
      (s.book.change c.order.slot fun o => o.reserve c.line x.grams x.product.layer) := by
    refine h.agrees.map rfl (fun o _ => ?_) (fun o ho hb => ?_) (fun o ho hne hlive => ?_)
      fun i hne => ?_
    · split <;> rfl
    · rw [Agrees.withClaim]
      split
      · rename_i hslot
        obtain rfl := OrderBook.eq_of_slot_eq h.sound.slots ho hmem hslot
        rw [← hgrams, ← hlayer']
        exact hb.reserve (c := e.claimOn c.line) hl hremaining (by
          show e.layer.getD 0 < 4
          omega) (by
          show _ + _ + (e.weight.map (·.grams)).getD 0 ≤ _
          omega)
      · exact hb
    · rw [Agrees.withClaim] at hne
      split
      · rename_i hslot
        obtain rfl := OrderBook.eq_of_slot_eq h.sound.slots ho hmem hslot
        exact .inl (.inl hopen)
      · rename_i hslot
        rw [if_neg hslot] at hne
        exact hlive hne
    · rw [Agrees.withClaim] at hne
      split at hne
      · rename_i hslot
        exact ⟨c.order, hmem, hslot.symm⟩
      · exact h.agrees.known i hne
  refine ⟨h.sound.change c.order.slot fun o _ _ => reserve_akin o _ _ _, hreserve.perm fun i => ?_⟩
  rw [Agrees.withClaim, claims_eq, claims_eq]
  simp only [Machine.joinBelt, onDivert_divert, onDivert_wall, reserve_divert, reserve_wall,
    List.filterMap_append]
  have hcl := hclaim i
  split
  · rename_i hi
    rw [if_pos hi] at hcl
    rw [List.filterMap_cons_some hcl, List.append_assoc]
    exact List.perm_middle
  · rename_i hi
    rw [if_neg hi] at hcl
    rw [List.filterMap_cons_none hcl, List.filterMap_nil, List.append_nil]

/-! ### The chutes -/

theorem chuteHead_perm {n : Lane} {e : ChuteEntry} {rest : List ChuteEntry}
    (hhead : s.wall.chutes.get n = e :: rest) (i : Nat) :
    ([e].filterMap (ChuteEntry.claim i) ++ claims (setChute n rest s) i).Perm (claims s i) := by
  have hset := chuteClaims_set s.wall.chutes n rest i
  have hcons : (e :: rest).filterMap (ChuteEntry.claim i) =
      [e].filterMap (ChuteEntry.claim i) ++ rest.filterMap (ChuteEntry.claim i) := by
    rw [← List.filterMap_append]
    rfl
  rw [hhead, hcons] at hset
  rw [List.perm_iff_count] at hset ⊢
  intro c
  have hs := hset c
  rw [claims_eq, claims_eq]
  simp only [List.count_append] at hs ⊢
  simp only [setChute, onWall_divert, onWall_wall]
  omega

theorem put (h : Accounts s) {n : Lane} {e : ChuteEntry} {rest : List ChuteEntry}
    {position slot line : Nat} (hhead : s.wall.chutes.get n = e :: rest)
    (hkind : e.kind = .put position slot line) :
    Accounts (confirm slot line ((e.weight.map (·.grams)).getD 0) (e.layer.getD 0)
      (setChute n rest s)) := by
  rw [Accounts, (confirm_bookOnly ..).claims_eq]
  refine Accounted.confirm (c := e.claimOn line) (Accounted.perm (b := s.book) h fun i => ?_)
  refine List.Perm.trans (.of_eq ?_) (chuteHead_perm hhead i)
  rw [List.filterMap_cons, chuteClaim_of_put hkind, Agrees.withClaim]
  split <;> rfl

theorem took (h : Accounts s) {n : Lane} {e : ChuteEntry} {rest : List ChuteEntry}
    (hhead : s.wall.chutes.get n = e :: rest)
    (hkind : ∀ position slot line, e.kind ≠ .put position slot line) : Accounts (setChute n rest s) := by
  refine h.of_perm rfl fun i => ?_
  have hperm := chuteHead_perm hhead i
  rwa [List.filterMap_cons_none (chuteClaim_of_not_put hkind i)] at hperm

/-! ### Orders -/

theorem closed (h : Accounts s) {o : Order} (ho : o ∈ s.book.orders) (hstate : o.state = .opened)
    (hzero : o.reservations = 0) :
    Accounts (s.onBook fun b => b.change o.slot fun x => { x with state := .complete, short := true }) :=
  of_book ⟨h.sound.restate ho (by rw [hstate]; rfl) (fun _ => ⟨rfl, rfl, rfl, rfl⟩) (fun _ => rfl)
    fun _ => rfl, h.agrees.complete h.sound.slots ho (reserved_of_reservations hzero) true⟩ rfl rfl

theorem shorted (h : Accounts s) {o : Order} (ho : o ∈ s.book.orders) (hstate : o.state = .opened) :
    Accounts (s.onBook fun b => b.change o.slot fun x => { x with state := .shorting, short := true }) :=
  of_book ⟨h.sound.restate ho (by rw [hstate]; rfl) (fun _ => ⟨rfl, rfl, rfl, rfl⟩) (fun _ => rfl)
    fun _ => rfl, h.agrees.change o.slot (f := fun x => { x with state := .shorting, short := true })
      (fun _ => ⟨rfl, rfl, rfl, rfl, rfl, rfl⟩) (fun _ _ _ _ _ => .inl (.inr rfl)) rfl⟩ rfl rfl

/-- What a cancel selects gives its claim up, and the rest keeps it, R19. -/
theorem claim_cancelFor (slot i : Nat) (e : Entry) :
    (e.cancelFor slot).claim i =
      if (e.isFor slot && e.holdsReservation) = true then none else e.claim i := by
  rcases hdest : e.dest with ⟨n, position, k, line, kind⟩ | n | r | r
  case place =>
    rcases hstate : e.state with f | ⟨f, d⟩ | r
    all_goals
      by_cases hk : k = slot
      all_goals
        simp [Entry.cancelFor, Entry.isFor, Entry.holdsReservation, Entry.claim, Entry.isScheduled,
          Entry.isFired, Dest.isPlace, hdest, hstate, hk]
  all_goals
    simp [Entry.cancelFor, Entry.isFor, Entry.holdsReservation, Entry.claim, Dest.isPlace, hdest]

theorem chuteClaim_cancelFor (slot i : Nat) (e : ChuteEntry) :
    (e.cancelFor slot).claim i = if e.isFor slot = true then none else e.claim i := by
  unfold ChuteEntry.cancelFor
  split
  · rfl
  · rfl

/-- The claims that a cancel leaves, and those it gives up. -/
theorem cancelled_perm (o : Order) (s : State) (i : Nat) :
    ((s.divert.queue.filter fun e => e.isFor o.slot && e.holdsReservation).filterMap (Entry.claim i) ++
      ((s.chuteEntries.filter (ChuteEntry.isFor o.slot)).filterMap (ChuteEntry.claim i) ++
        claims (cancelledState o s) i)).Perm (claims s i) := by
  have hqueue := filter_append_map_perm (f := Entry.claim i) (g := Entry.cancelFor o.slot)
    (p := fun e => e.isFor o.slot && e.holdsReservation)
    (fun e he => by rw [claim_cancelFor, if_pos he])
    (fun e he => by rw [claim_cancelFor, if_neg (by simp [he])]) s.divert.queue
  have hchutes := filter_append_map_perm (f := ChuteEntry.claim i) (g := ChuteEntry.cancelFor o.slot)
    (p := ChuteEntry.isFor o.slot) (fun e he => by rw [chuteClaim_cancelFor, if_pos he])
    (fun e he => by rw [chuteClaim_cancelFor, if_neg (by simp [he])]) s.chuteEntries
  rw [claims_eq, claims_eq]
  simp only [cancelledState, onWall_divert, onDivert_divert, onWall_wall, onDivert_wall,
    onBook_divert, onBook_wall, chuteClaims_map]
  rw [List.perm_iff_count] at hqueue hchutes ⊢
  intro c
  have hq := hqueue c
  have hc := hchutes c
  simp only [List.count_append, State.chuteEntries, chuteClaims] at hq hc ⊢
  omega

/-- No claim on a cancelled order is left, R19. -/
theorem claims_cancelledState (o : Order) (s : State) : claims (cancelledState o s) o.slot = [] := by
  rw [claims_eq, List.append_eq_nil_iff]
  refine ⟨List.filterMap_eq_nil_iff.mpr fun x hx => ?_, ?_⟩
  · obtain ⟨e, -, rfl⟩ := List.mem_map.mp hx
    rw [claim_cancelFor]
    split
    · rfl
    · rename_i hnot
      rcases hdest : e.dest with ⟨n, position, k, line, kind⟩ | n | r | r
      case place =>
        by_cases hheld : (e.isScheduled || e.isFired) = true
        · rw [claim_of_place hdest hheld, if_neg]
          rintro rfl
          exact hnot (by simp only [Entry.isFor, Entry.holdsReservation, hdest, Dest.isPlace, hheld,
            beq_self_eq_true, Bool.true_and])
        · exact claim_of_not_held (eq_false_of_ne_true hheld) _
      all_goals exact claim_of_not_place (by rw [hdest]; rfl) _
  · simp only [cancelledState, onWall_wall, chuteClaims_map]
    refine List.filterMap_eq_nil_iff.mpr fun x hx => ?_
    obtain ⟨e, -, rfl⟩ := List.mem_map.mp hx
    rw [chuteClaim_cancelFor]
    split
    · rfl
    · rename_i hnot
      unfold ChuteEntry.claim
      split
      · rename_i hkind
        refine if_neg ?_
        rintro rfl
        exact hnot (by simp [ChuteEntry.isFor, hkind])
      · rfl

theorem cancelled (h : Accounts s) {o : Order} (ho : o ∈ s.book.orders)
    (hlive : o.state = .opened ∨ o.state = .shorting) : Accounts (cancelInFlight o s) := by
  have hpast : o.state.past = true := by rcases hlive with hs | hs <;> rw [hs] <;> rfl
  have hstart : Accounted (fun i => i = o.slot) (claims s) (cancelledState o s).book := by
    refine ⟨h.sound.restate ho hpast (fun _ => ⟨rfl, rfl, rfl, rfl⟩) (fun _ => rfl) fun _ => rfl,
      Agrees.change (b := s.book) ⟨h.agrees.balanced, fun x hx hne =>
        .inl ((h.agrees.states x hx hne).resolve_right id), h.agrees.known⟩ o.slot
        (f := fun x => { x with state := .cancelled }) (fun _ => ⟨rfl, rfl, rfl, rfl, rfl, rfl⟩)
        (fun _ _ hslot _ _ => .inr hslot) rfl⟩
  have hend : Accounted (fun i => i = o.slot) (claims (cancelledState o s)) (cancelInFlight o s).book := by
    rw [cancelInFlight_eq]
    refine Accounted.chuteReleases (Accounted.releases (fun e he => ?_)
      (hstart.perm (cancelled_perm o s)))
    have hheld := (List.mem_filter.mp he).right
    simp only [Entry.holdsReservation, Bool.and_eq_true] at hheld
    exact hheld.right.right
  rw [Accounts, (cancelInFlight_bookOnly o s).claims_eq]
  refine ⟨hend.sound, hend.agrees.balanced, fun x hx hne => .inl ?_, hend.agrees.known⟩
  refine (hend.agrees.states x hx hne).resolve_right fun hslot => hne ?_
  rw [hslot]
  exact claims_cancelledState o s

/-- LINE_CLEAR gives every claim up, R157. -/
theorem cleared (h : Accounts s) : Accounts (clearLists s) := by
  rw [Accounts, (clearLists_bookOnly s).claims_eq, clearLists_eq]
  refine Accounted.chuteReleases (Accounted.releases (fun e he => ?_)
    (Accounted.perm (b := s.book) h fun i => .of_eq ?_))
  · have hheld := (List.mem_filter.mp he).right
    simp only [Entry.holdsReservation, Bool.and_eq_true] at hheld
    exact hheld.right
  · rw [filterMap_filter_eq fun e he => claim_of_not_holds he i]
    have hnil : claims (emptiedState s) i = [] := by
      simp [claims_eq, emptiedState, chuteClaims, PerLane.toList]
    rw [hnil, List.append_nil, claims_eq]
    rfl

/-! ### Acts and steps -/

theorem act (hact : Act s t) (hcatalogue : CatalogueLaw s) (h : Accounts s) : Accounts t := by
  cases hact
  case told | counted => exact h.of_eq (by simp) (by simp) (by simp)
  case marked => exact h.of_eq (by simp) (by simp) (markAndSend_chutes _ s)
  case lightSent =>
    unfold Machine.lightSent
    split
    · exact h
    · exact h.of_eq (by simp) (by simp) (beginLight_chutes _)
  case jammed a _ => cases a <;> exact h
  case gaveUp p reason hp => exact h.gaveUp hp reason
  case fired a => exact h.fired a
  case dwellEnded a =>
    rcases endDwell_cases a s with heq | heq <;> rw [heq] <;> exact h
  case lapsed a =>
    rcases lapseLastFire_cases a s with heq | heq <;> rw [heq] <;> exact h
  case missed tag => exact h.missed tag
  case left tag => exact h.left tag
  case confirmed he => exact h.confirmed he
  case strayed n => exact h.strayed n
  case recirculated e r _ _ => exact h.joinBelt (claim_of_outbound ‹_›)
  case rejected e r _ _ _ _ =>
    have hdest : e.dest = .reject r := ‹_›
    exact h.joinBelt (claim_of_not_place (by rw [hdest]; rfl))
  case placed => exact h.placed hcatalogue ‹_› ‹_› ‹_› ‹_› ‹_› ‹_› ‹_›
  case put => exact h.put ‹_› ‹_›
  case took => exact h.took ‹_› ‹_›
  case bound => exact of_book h.runBinder (by simp) (by simp)
  case promoted => exact of_book h.promote (by simp) (by simp)
  case emptied => exact of_book (h.empty ‹_› ‹_›) rfl rfl
  case entered ho => exact of_book (h.enter ho) rfl rfl
  case enqueued => exact of_book (h.enqueue ‹_› ‹_›) rfl rfl
  case closed => exact h.closed ‹_› ‹_› ‹_›
  case shorted => exact h.shorted ‹_› ‹_›
  case cancelled => exact h.cancelled ‹_› ‹_›
  case disarmed =>
    rw [clearArmsLive_eq]
    exact gaveUp (s := arrestedState s) h (fun _ he => he) _
  all_goals exact h

theorem works (hworks : Works s t) (hcatalogue : CatalogueLaw s) (h : Accounts s) : Accounts t := by
  refine (keeps_of_run (P := fun u => u.catalogue = s.catalogue ∧ Accounts u) (fun u v hwork hu => ?_)
    hworks ⟨rfl, h⟩).right
  obtain ⟨hc, hu⟩ := hu
  refine ⟨hwork.firm.catalogue.trans hc, ?_⟩
  cases hwork
  case touched => exact hu
  case deed hdeed =>
    cases hdeed
    case act hact => 
      exact hu.act hact ⟨hc ▸ hcatalogue.size, hc ▸ hcatalogue.sorted, hc ▸ hcatalogue.fields⟩
    case cleared => exact hu.cleared
    all_goals exact hu

theorem move (hmove : Move s t) (hcatalogue : CatalogueLaw s) (h : Accounts s) : Accounts t := by
  cases hmove
  case turn hturn => exact h.works hturn.works hcatalogue
  case pinned hturns _ =>
    exact works (s := s.onPins _) hturns.works ⟨hcatalogue.size, hcatalogue.sorted, hcatalogue.fields⟩ h
  case stopped =>
    split
    · rw [clearArmsLive_eq]
      exact gaveUp (s := arrestedState (stopTaken true s)) h (fun _ he => he) _
    · exact h
  case written q v _ _ _ _ _ _ =>
    have hstored : ∀ v, (stored q v s).catalogue = s.catalogue ∧ (Accounts s → Accounts (stored q v s)) :=
      fun v => by cases q <;> exact ⟨rfl, id⟩
    refine works (Turns.works ‹_›) ?_ ((hstored _).right h)
    have hc := (hstored (q.clampIn s.params v)).left
    exact ⟨hc ▸ hcatalogue.size, hc ▸ hcatalogue.sorted, hc ▸ hcatalogue.fields⟩
  all_goals exact h

end Accounts

theorem CatalogueLaw.of_eq {s t : State} (h : CatalogueLaw s) (heq : t.catalogue = s.catalogue) :
    CatalogueLaw t := ⟨heq ▸ h.size, heq ▸ h.sorted, heq ▸ h.fields⟩

theorem CatalogueLaw.move {s t : State} (hmove : Move s t) (h : CatalogueLaw s) : CatalogueLaw t := by
  cases hmove
  case turn hturn => exact h.of_eq hturn.works.firm.catalogue
  case pinned hturns _ => exact h.of_eq hturns.works.firm.catalogue
  case stopped =>
    split
    · exact h.of_eq (Act.disarmed (stopTaken true s)).steady.catalogue
    · exact h.of_eq rfl
  case written q v _ _ _ _ _ _ =>
    have hstored : ∀ v, (stored q v s).catalogue = s.catalogue := fun v => by cases q <;> rfl
    exact h.of_eq ((Works.firm (Turns.works ‹_›)).catalogue.trans (hstored _))
  case tabled hf => exact hf h
  all_goals exact h.of_eq rfl

theorem accounts_lawful : Lawful fun s => CatalogueLaw s ∧ Accounts s where
  pending _ h := ⟨h.left.of_eq rfl, h.right⟩
  wire {s t} _ hwire h := by
    obtain ⟨hcatalogue, h⟩ := h
    cases hwire
    case move hmove => exact ⟨hcatalogue.move hmove, h.move hmove hcatalogue⟩
    case sent =>
      unfold frameSent
      split <;> exact ⟨hcatalogue.of_eq rfl, h⟩
    all_goals exact ⟨hcatalogue.of_eq rfl, h⟩
  held _ _ h := ⟨h.left.of_eq rfl, h.right⟩
  reset _ _ := by
    refine ⟨⟨Nat.zero_le _, .nil, fun r hr => absurd hr List.not_mem_nil⟩, bookReset_sound,
      fun o ho => absurd ho List.not_mem_nil, fun o ho => absurd ho List.not_mem_nil, fun i hne => ?_⟩
    exact absurd rfl hne
  ended _ _ h := ⟨h.left.of_eq (by simp [endReset]),
    h.right.of_eq (by simp [endReset]) (by simp [endReset]) (beginLight_chutes _)⟩

/-- Settles O59: the accounts agree with the claims after every act, and nothing else touches either. -/
theorem accountsLawIsKept : Obligations.AccountsLawIsKept :=
  fun _ _ hbook hcatalogue haccounts hstep =>
    (accounts_iff.mp
      (accounts_lawful.step hstep ⟨hcatalogue, accounts_iff.mpr ⟨hbook, haccounts⟩⟩).right).right

end Sys2Proof.Machine
end

section
/-! PROOFS. What is common to every request (R165, R166, R170, R171), the Status Unit's reports, counters and
flags (R169 to R178), and the frames sent (R168). -/

namespace Sys2Proof.Machine

/-! ### Requests -/

/-- A request that passes the common checks is answered as its owner answers it. -/
theorem serve_answers {q : Request} {s t : State} (h : Accepts q s) {code : Byte}
    {own : List Byte → State → Answer} {r : Result} {body : List Byte}
    (ha : own q.body s = { state := t, result := r, body := body }) :
    serve code own q s = .next (withResponse code q r body t) := by
  rw [serve_of_accepts h, ha]

/-- A request whose owner refuses it leaves the state as it was. -/
theorem serve_refuses {q : Request} {s : State} (h : Accepts q s) {code : Byte}
    {own : List Byte → State → Answer} {r : Result} (ha : own q.body s = .refuse s r) :
    serve code own q s = .next (withResponse code q r [] s) := serve_answers h ha

theorem serve_of_full {q : Request} {s : State} (h : Hears s) (hfull : 32 ≤ s.link.txQueue.length)
    (code : Byte) (own : List Byte → State → Answer) :
    serve code own q s = .next (dropRequest code s) := by
  have hl : Config.txFrames ≤ s.link.txQueue.length := hfull
  rw [serve, unlessDeaf_of_hears h, takeRequest, if_pos hl]

theorem serve_of_foreign {q : Request} {s : State} (h : Hears s) (hroom : s.link.txQueue.length < 32)
    (hsource : q.source ≠ s.params.controlNode) (code : Byte) (own : List Byte → State → Answer) :
    serve code own q s = .next (withResponse code q .notPermitted [] s) := by
  have hl : ¬ Config.txFrames ≤ s.link.txQueue.length := Nat.not_le_of_lt hroom
  rw [serve, unlessDeaf_of_hears h, takeRequest, if_neg hl, if_pos hsource]
  rfl

/-- A request that finds the queue full leaves its LINK_ERROR flag and count, and takes a sequence number if
REPORT_MASK has the bit: its event frame is lost with it (R168, R170). -/
theorem dropRequest_eq (code : Byte) {s : State} (hfull : 32 ≤ s.link.txQueue.length) :
    dropRequest code s =
      { s with
        status :=
          { flags := s.status.flags ||| 0x00200000
            counters := s.status.counters.modify 20 bump }
        link :=
          { s.link with
            seq := if s.params.reportMask.getLsbD 21 then s.link.seq + 1 else s.link.seq } } := by
  have hlost : ¬ (s.link.txQueue.length ≤ Config.txEventLimit ∧ s.link.resetWait = .idle) := fun h =>
    absurd h.1 (by simp only [Config.txEventLimit]; omega)
  have hlink : linkAfterReport { kind := .linkError, detail := 0x05, position := some code.toNat } s =
      { s.link with
        seq := if s.params.reportMask.getLsbD 21 then s.link.seq + 1 else s.link.seq } := by
    rw [linkAfterReport, if_neg hlost]
    show (if s.params.reportMask.getLsbD 21 then _ else _) = _
    split <;> rfl
  rw [dropRequest, report_eq_update, hlink]
  rfl

theorem emptyBody_badLength {body : List Byte} (h : (body.length == 0) = false)
    (own : State → Answer) (s : State) : emptyBody own body s = .refuse s .badLength := by
  rw [emptyBody, if_neg]
  rintro rfl
  exact absurd h (by decide)

theorem withOrder_badLength {body : List Byte} (h : (body.length == 4) = false)
    (own : Order → State → Answer) (s : State) : withOrder own body s = .refuse s .badLength :=
  if_pos (by simpa using h)

/-- A body of a length its rule does not allow is refused by the owner of every request (R165). -/
theorem ownerOf_badLength {i : Instr} {code : Byte} {q : Request} (hi : i.request? = some (code, q))
    (hlength : i.lengthFits = false) {own : List Byte → State → Answer}
    (hown : ownerOf code = some own) (s : State) : own q.body s = .refuse s .badLength := by
  cases i
  case readIdent | readStatus | readRefusal | clearRefusal | advanceWave | armLanes | disarmLanes |
      pause | resume | lineClear | partReset =>
    cases hi; cases hown; exact emptyBody_badLength hlength _ _
  case cancelOrder | shortClose | readOrder =>
    cases hi; cases hown; exact withOrder_badLength hlength _ _
  case loadOrder =>
    cases hi; cases hown
    refine if_pos ?_
    have hnot : ¬ (13 ≤ q.body.length ∧ q.body.length = 13 + 5 * fieldAt q.body 12 1) :=
      of_decide_eq_false hlength
    omega
  case readProduct =>
    cases hi; cases hown
    obtain ⟨htwo, hthree⟩ : q.body.length ≠ 2 ∧ q.body.length ≠ 3 := by
      simpa [Instr.lengthFits] using hlength
    rw [ownReadProduct, if_neg hthree, if_neg htwo]
  all_goals
    cases hi <;> cases hown <;> exact if_pos (by simpa [Instr.lengthFits] using hlength)

/-- Settles O7: each check of R165, R170 and R171 ends a request in its place, before its owner is asked;
the length is the owner's first check. -/
theorem requestsPassTheCommonChecks : Obligations.RequestsPassTheCommonChecks := by
  intro i code q s hi
  obtain ⟨own, hown, hexec⟩ := exec_request hi s
  rw [hexec]
  refine ⟨fun h => serve_of_not_hears h code own q, fun h hfull => ?full,
    fun h hroom hsource => serve_of_foreign h hroom hsource code own,
    fun h hlength => serve_refuses h (ownerOf_badLength hi hlength hown s)⟩
  case full => rw [serve_of_full h hfull, dropRequest_eq code hfull]

/-! ### Frames sent -/

theorem frameSent_of_sending {s : State} (h : s.link.sending = true) {f : Frame} {rest : List Frame}
    (hqueue : s.link.txQueue = f :: rest) : frameSent s =
      { s with
        link :=
          { s.link with
            txQueue := rest
            sending := !rest.isEmpty
            resetWait :=
              if s.link.resetWait = .waiting ∧ rest = [] then .sent else s.link.resetWait } } := by
  rw [frameSent, if_pos h]
  simp [State.onLink, hqueue]

theorem exec_intakeFrameSent_idle {s : State} (h : s.link.sending = false) :
    exec .intakeFrameSent s = .next s := by
  have hsent : frameSent s = s := by rw [frameSent, h]; rfl
  show Host.Outcome.next (unlessInReset frameSent s) = .next s
  rw [unlessInReset, hsent, ite_self]

theorem exec_partReset {q : Request} {s : State} (h : Accepts q s) (hbody : q.body = []) :
    exec (.partReset q) s =
      .next (withResponse 0x7F q .ok [] { s with link := { s.link with resetWait := .waiting } }) :=
  serve_answers h (own := ownPartReset) (emptyBody_nil hbody _ s)

/-- What the send of the response and PART_RESET_TAKEN make of a state in which PART_RESET waits behind its
response alone. -/
theorem partReset_runs {q : Request} {s : State} (h : Accepts q s) (hqueue : s.link.txQueue = []) :
    ∃ u, exec .intakeFrameSent
        (withResponse 0x7F q .ok [] { s with link := { s.link with resetWait := .waiting } }) = .next u ∧
      exec .partResetTaken u =
        .next (heldState (s.status.flags &&& 0x07000000 ||| 0x04000000) s) := by
  let w := withResponse 0x7F q .ok [] { s with link := { s.link with resetWait := .waiting } }
  have hrunning : w.inReset = false := h.1.1
  have hw : w.link.txQueue = [
      { dest := q.source, source := s.link.node, kind := 0x11, tag := q.tag
        payload := [0x7F, codeOfResult .ok] }] := by
    show s.link.txQueue ++ _ = _
    rw [hqueue]
    rfl
  have hsent : unlessInReset frameSent w = _ :=
    (unlessInReset_of_running hrunning frameSent).trans (frameSent_of_sending rfl hw)
  refine ⟨_, congrArg Host.Outcome.next hsent, ?_⟩
  exact congrArg Host.Outcome.next (takeReset_eq_heldState .partReset s)

/-- Settles O10: the frame sent leaves the queue, and a PART_RESET waits for the send of its response. -/
theorem frameSentLeavesQueue : Obligations.FrameSentLeavesQueue := by
  refine ⟨fun f rest s hrunning hqueue hsending => ?sent, fun s h => exec_intakeFrameSent_idle h,
    fun q s h hbody => ⟨exec_partReset h hbody, fun hqueue => ?reset⟩⟩
  case sent =>
    exact congrArg Host.Outcome.next ((unlessInReset_of_running hrunning frameSent).trans
      (frameSent_of_sending hsending hqueue))
  case reset =>
    obtain ⟨u, hu, hreset⟩ := partReset_runs h hqueue
    exact ⟨_, u, exec_partReset h hbody, hu, hreset⟩

/-! ### Reports and counters -/

theorem codeOfEvent_eq (k : EventKind) : codeOfEvent k = k.code := rfl

/-- Settles O11: the three cases of what a report does to the intake link. -/
theorem reportSetsFlagAndOffersFrame : Obligations.ReportSetsFlagAndOffersFrame := by
  intro r s
  refine ⟨fun hmask => ?masked, fun hmask hroom hidle => ?queued, fun hmask hlost => ?lost⟩
  case masked =>
    rw [codeOfEvent_eq] at hmask
    rw [report_eq_update, linkAfterReport, hmask]
    rfl
  case queued =>
    rw [codeOfEvent_eq] at hmask
    have hjoins : s.link.txQueue.length ≤ Config.txEventLimit ∧ s.link.resetWait = .idle :=
      ⟨hroom, hidle⟩
    rw [report_eq_update, linkAfterReport, if_pos hmask, if_pos hjoins]
    rfl
  case lost =>
    rw [codeOfEvent_eq] at hmask
    have hlimit : Config.txEventLimit = 23 := rfl
    have hno : ¬ (s.link.txQueue.length ≤ Config.txEventLimit ∧ s.link.resetWait = .idle) := by
      rintro ⟨hroom, hidle⟩
      exact hlost.elim (fun h => by omega) (fun h => h hidle)
    rw [report_eq_update, linkAfterReport, if_pos hmask, if_neg hno]
    rfl

theorem counter_id_lt (c : Counter) : c.id < 22 := by cases c <;> decide

theorem counter_id_inj {c d : Counter} (h : c.id = d.id) : c = d := by
  revert h
  cases c <;> cases d <;> decide

/-- Settles O12: an increase is of the one value at the counter's identifier. -/
theorem countRaisesOneCounter : Obligations.CountRaisesOneCounter := by
  refine ⟨fun c d => ⟨counter_id_lt c, counter_id_inj⟩, by decide,
    fun c s => ⟨s.status.counters.modify c.id bump, rfl, fun i => ?_⟩⟩
  by_cases h : i = c.id
  · rw [if_pos h, List.getElem?_modify]
    simp only [h, if_true]
    rfl
  · rw [if_neg h, List.getElem?_modify_ne _ _ (Ne.symm h)]

/-! ### The status requests -/

theorem toBytes_one (v : Nat) : toBytes 1 v = [BitVec.ofNat 8 v] := by
  rw [toBytes, Nat.pow_zero, Nat.div_one]
  rfl

theorem identCounts_bytes : toBytes 2 Config.deviceCode ++ toBytes 1 Config.revision =
    ([0x0C, 0x08, 0x01] : List Byte) ∧ identCounts.flatMap (toBytes 2) =
    ([0x01, 0x00, 0x08, 0x00, 0x10, 0x00, 0, 24, 0, 16, 0, 8, 0, 15, 0, 8, 0, 48, 0, 16, 0, 64, 0, 32,
      0, 22, 0, 22] : List Byte) := by decide

theorem laneStateBytes_eq (st : LaneState) : laneStateBytes st =
    match st with
    | .enabled => ([0x00, 0xFF] : List Byte)
    | .disabled => [0x01, 0xFF]
    | .jammed .enabled => [0x02, 0x00]
    | .jammed .disabled => [0x02, 0x01] := by
  rcases st with _ | _ | r
  · decide
  · decide
  · cases r <;> decide

theorem toBytes_one_of_flag (b : Bool) : toBytes 1 (if b then 2 else 0) =
    [if b then (0x02 : Byte) else 0x00] := by cases b <;> decide

theorem refusedBytes_eq (r : Option Refused) : refusedBytes r =
    match r with
    | none => ([0, 0, 0, 0, 0, 0, 0, 0, 0, 0, 0, 0, 0] : List Byte)
    | some r => [0x01] ++ toBytes 3 r.stock ++ toBytes 1 r.cls ++
        [match r.kind with | .primary => (0x00 : Byte) | .substitute => 0x01] ++
        (match r.cause with | .range i => toBytes 1 i | .default => [0xFF]) ++
        toBytes 2 r.wave ++ toBytes 4 r.order := by
  rcases r with _ | ⟨stock, cls, kind, cause, wave, order⟩
  · decide
  · simp only [refusedBytes, toBytes_one]
    cases kind <;> cases cause <;> simp [Kind.code, Cause.code]

/-- Settles O13: the three reads answer the layouts of Section 9.8 and leave the state. -/
theorem statusReadsAnswerWhatStands : Obligations.StatusReadsAnswerWhatStands := by
  intro q s h hbody
  refine ⟨?ident, ?status, ?refusal⟩
  case ident =>
    refine serve_answers h (own := ownReadIdent) ((emptyBody_nil hbody _ s).trans ?_)
    simp only [Answer.ok, identCounts_bytes.1, identCounts_bytes.2]
    rfl
  case status =>
    refine serve_answers h (own := ownReadStatus) ((emptyBody_nil hbody _ s).trans ?_)
    have hlanes : s.divert.laneStates.toList.flatMap laneStateBytes =
        [Lane.l1, .l2, .l3, .l4, .l5, .l6, .l7, .l8].flatMap (fun n =>
          laneStateBytes (s.divert.laneStates.get n)) := List.flatMap_map ..
    simp only [Answer.ok, statusBytes, hlanes, laneStateBytes_eq, toBytes_one_of_flag]
    rfl
  case refusal =>
    refine serve_answers h (own := ownReadRefusal) ((emptyBody_nil hbody _ s).trans ?_)
    simp only [Answer.ok, refusedBytes_eq] <;> rfl

/-! ### Flags and counters -/

theorem getLsbD_flagBits (k : Nat) :
    flagBits.getLsbD k = (decide (k < 22) || (decide (24 ≤ k) && decide (k ≤ 26))) := by
  by_cases h : k < 32
  · have hbits : ∀ j < 32, flagBits.getLsbD j =
        (decide (j < 22) || (decide (24 ≤ j) && decide (j ≤ 26))) := by decide
    exact hbits k h
  · rw [BitVec.getLsbD_of_ge _ _ (by omega)]
    simp only [Bool.false_eq, Bool.or_eq_false_iff, Bool.and_eq_false_iff, decide_eq_false_iff_not]
    omega

theorem getLsbD_clearFlags (mask flags : BitVec 32) (k : Nat) :
    (clearFlags mask flags).getLsbD k = (flags.getLsbD k &&
      !((k < 22 || (24 ≤ k && k ≤ 26)) && mask.getLsbD k)) := by
  by_cases h : k < 32
  · rw [← getLsbD_flagBits, clearFlags, BitVec.getLsbD_and, BitVec.getLsbD_not,
      BitVec.getLsbD_and, decide_eq_true h, Bool.true_and, Bool.and_comm (mask.getLsbD k)]
  · simp [BitVec.getLsbD_of_ge _ k (Nat.le_of_not_lt h)]

/-- The counters of a run read and cleared are 0, and the others stand (R176). -/
theorem clearRun_getElem? (first n : Nat) (counters : List Nat) (i : Nat) :
    (clearRun first n counters)[i]? =
      if first ≤ i ∧ i < first + n then (counters[i]?).map fun _ => 0 else counters[i]? := by
  have hlength : ((counters.drop first).take n).length = min n (counters.length - first) := by simp
  rw [clearRun, hlength]
  simp only [List.getElem?_append, List.getElem?_take, List.getElem?_drop,
    List.getElem?_replicate, List.length_append, List.length_take, List.length_replicate]
  by_cases hi : i < counters.length
  · by_cases hbefore : i < first
    · rw [if_pos (by omega), if_pos (by omega), if_pos hbefore, if_neg (by omega)]
    · by_cases hrun : i < first + n
      · rw [if_pos (by omega), if_neg (by omega), if_pos (by omega), if_pos (by omega),
          List.getElem?_eq_getElem hi]
        rfl
      · rw [if_neg (by omega), if_neg (by omega)]
        congr 1
        omega
  · rw [if_neg (by omega), List.getElem?_eq_none (by omega), List.getElem?_eq_none (by omega)]
    simp

/-- Settles O14: the bits of the flag word after CLEAR_FLAGS, and the values of the counters after
READ_COUNTERS, are those of `clearFlags` and `clearRun`. -/
theorem flagsAndCountersAreReadAndCleared : Obligations.FlagsAndCountersAreReadAndCleared := by
  intro q s h
  refine ⟨fun hlength => ⟨clearFlags (BitVec.ofNat 32 (q.num 0 4)) s.status.flags,
      getLsbD_clearFlags _ _, serve_answers h (own := ownClearFlags) ?flags⟩,
    fun hlength => ⟨fun hbad => serve_refuses h (own := ownReadCounters) ?bad,
      fun hfirst hnumber hlast hoption => ?read⟩⟩
  case flags =>
    rw [ownClearFlags, if_neg (not_not_intro hlength)]
    rfl
  case bad =>
    rw [ownReadCounters, if_neg (not_not_intro hlength)]
    exact if_pos hbad
  case read =>
    have hgood : ¬ (21 < fieldAt q.body 0 1 ∨ fieldAt q.body 1 1 = 0 ∨
        Config.counters < fieldAt q.body 0 1 + fieldAt q.body 1 1 ∨ 1 < fieldAt q.body 2 1) := by
      rintro (hb | hb | hb | hb)
      · exact absurd hfirst (Nat.not_le_of_lt hb)
      · exact hnumber hb
      · exact absurd hlast (Nat.not_le_of_lt hb)
      · exact absurd hoption (Nat.not_le_of_lt hb)
    refine ⟨if q.num 2 1 = 1 then clearRun (q.num 0 1) (q.num 1 1) s.status.counters
      else s.status.counters, fun i => ?_, serve_answers h (own := ownReadCounters) ?_⟩
    · by_cases hclear : q.num 2 1 = 1
      · rw [if_pos hclear, clearRun_getElem?]
        simp only [hclear, true_and]
      · rw [if_neg hclear, if_neg fun hrun => hclear hrun.1]
    · rw [ownReadCounters, if_neg (not_not_intro hlength)]
      refine (if_neg hgood).trans ?_
      by_cases hclear : fieldAt q.body 2 1 = 1
      · simp only [Request.num, hclear, if_true]
        rfl
      · simp only [Request.num, hclear, if_false]
        rfl

end Sys2Proof.Machine

end

section
/-! PROOFS. The requests that read and write single table entries: the Parameter Store's checks (R181 to R183), the
reads (R22, R23, R31, R135, R182), the staged tables (R132 to R134), the refusal record (R39, R41) and ADVANCE_WAVE
(R139). -/

namespace Sys2Proof.Machine

/-! ### The checks of SET_PARAM and SET_LOCK -/

theorem laneOf_isSome (k : Nat) : (laneOf k).isSome = (decide (1 ≤ k) && decide (k ≤ 8)) := by
  by_cases h : 1 ≤ k ∧ k ≤ 8
  · obtain ⟨hlow, hhigh⟩ := h
    have hlanes : ∀ j < 9, (laneOf j).isSome = (decide (1 ≤ j) && decide (j ≤ 8)) := by decide
    exact hlanes k (by omega)
  · rw [Option.isSome_eq_false_iff.mpr]
    · symm
      simpa using h
    · rw [Option.isNone_iff_eq_none]
      rcases hl : laneOf k with _ | n
      · rfl
      · have := laneNumber_bounds n
        exact absurd (laneOf_eq_some.mp hl ▸ this) h

theorem plain_isSome (p : Param) (index : Nat) : (plain p index).isSome = (index == 0) := by
  unfold plain
  split <;> simp_all

/-- The identifiers and indices that name a parameter are those of R180's table. -/
theorem paramOf_isSome (id index : Nat) : (paramOf id index).isSome = paramNamed id index := by
  unfold paramOf
  split
  case h_27 =>
    simp_all [paramNamed]
  all_goals simp [paramNamed, plain_isSome, laneOf_isSome]

theorem paramOf_eq_none {id index : Nat} (h : paramNamed id index = false) :
    paramOf id index = none :=
  Option.isNone_iff_eq_none.mp (Option.isSome_eq_false_iff.mp ((paramOf_isSome id index).trans h))

section
variable {body : List Byte} {s : State}

theorem ownSetParam_of_unnamed (hlength : body.length = 6)
    (h : paramOf (fieldAt body 0 1) (fieldAt body 1 1) = none) :
    ownSetParam body s = .refuse s .badField := by
  rw [ownSetParam, if_neg (not_not_intro hlength), h]

theorem ownSetParam_of_named (hlength : body.length = 6) {p : Param}
    (h : paramOf (fieldAt body 0 1) (fieldAt body 1 1) = some p) :
    ownSetParam body s =
      checkedWrite p (fieldAt body 0 1) (fieldAt body 1 1) (fieldAt body 2 4) s := by
  rw [ownSetParam, if_neg (not_not_intro hlength), h]

end

theorem lockForbids_iff {level : Nat} {c : LockClass} : lockForbids level c = true ↔
    (c = .geometry ∧ 1 ≤ level) ∨ (c = .timing ∧ 2 ≤ level) := by
  cases c <;> simp [lockForbids]

section
variable {p : Param} {id index v : Nat} {s : State}

theorem checkedWrite_of_badChoice (h : p.isChoice = true ∧ 1 < v) :
    checkedWrite p id index v s = .refuse s .badField := if_pos h

theorem checkedWrite_of_locked (hchoice : p.isChoice = true → v ≤ 1)
    (hlock : lockForbids s.params.lockLevel p.lockClass = true) :
    checkedWrite p id index v s = .refuse s .locked := by
  rw [checkedWrite, if_neg fun h => absurd (hchoice h.1) (Nat.not_le_of_lt h.2), if_pos hlock]

theorem checkedWrite_of_armed (hchoice : p.isChoice = true → v ≤ 1)
    (hlock : lockForbids s.params.lockLevel p.lockClass = false)
    (harms : p.lockClass ≠ .free ∧ s.divert.armsLive = true) :
    checkedWrite p id index v s = .refuse s .wrongState := by
  rw [checkedWrite, if_neg fun h => absurd (hchoice h.1) (Nat.not_le_of_lt h.2), hlock,
    if_neg Bool.false_ne_true, if_pos harms]

theorem checkedWrite_of_settable (hchoice : p.isChoice = true → v ≤ 1)
    (hlock : lockForbids s.params.lockLevel p.lockClass = false)
    (harms : p.lockClass = .free ∨ s.divert.armsLive = false) :
    checkedWrite p id index v s =
      if belowLoad s (p.clampIn s.params v) p then .refuse s .wrongState
      else writeParam p id index v s := by
  have hfree : ¬ (p.lockClass ≠ .free ∧ s.divert.armsLive = true) := by
    rintro ⟨hclass, hlive⟩
    exact harms.elim hclass fun h => by simp [h] at hlive
  rw [checkedWrite, if_neg fun h => absurd (hchoice h.1) (Nat.not_le_of_lt h.2), hlock,
    if_neg Bool.false_ne_true, if_neg hfree]

end

/-- Settles O16: the checks of SET_PARAM and SET_LOCK, each reached when those before it pass. -/
theorem locksAndChecksRefuseWrites : Obligations.LocksAndChecksRefuseWrites := by
  refine ⟨fun q s h hlength => ⟨fun hunnamed => ?unnamed, fun p hp => ?named⟩,
    fun q s h hlength => ?lock⟩
  case unnamed =>
    exact serve_refuses h (own := ownSetParam)
      (ownSetParam_of_unnamed hlength (paramOf_eq_none hunnamed))
  case named =>
    have refused {r : Result} (hr : checkedWrite p (q.num 0 1) (q.num 1 1) (q.num 2 4) s =
        .refuse s r) : exec (.setParam q) s = .next (withResponse 0x10 q r [] s) :=
      serve_refuses h (own := ownSetParam) ((ownSetParam_of_named hlength hp).trans hr)
    refine ⟨?_, fun hchoice hbad => refused (checkedWrite_of_badChoice ⟨hchoice, hbad⟩),
      fun hchoice hlock => refused (checkedWrite_of_locked hchoice (lockForbids_iff.mpr hlock)),
      fun hchoice hlock hclass hlive => refused (checkedWrite_of_armed hchoice hlock ⟨hclass, hlive⟩),
      fun n hn hlevel harms hload => refused ?_⟩
    · rw [← paramOf_isSome, hp]
      rfl
    · subst hn
      have hbelow : belowLoad s ((Param.chuteCap n).clampIn s.params (q.num 2 4)) (.chuteCap n) = true := by
        rw [← clamp_eq (by decide)] at hload
        exact decide_eq_true hload
      have hlock : lockForbids s.params.lockLevel (Param.chuteCap n).lockClass = false := by
        rw [hlevel]
        rfl
      have hchoice : (Param.chuteCap n).isChoice = true → q.num 2 4 ≤ 1 := fun h => nomatch h
      rw [checkedWrite_of_settable hchoice hlock (Or.inr harms),
        if_pos hbelow]
  case lock =>
    have own_eq : ownSetLock q.body s = if 2 < q.num 0 1 then .refuse s .badField
        else if q.num 0 1 < s.params.lockLevel then .refuse s .locked
        else .ok (s.onParams fun p => { p with lockLevel := q.num 0 1 }) (toBytes 1 (q.num 0 1)) :=
      if_neg (not_not_intro hlength)
    refine ⟨fun hbad => serve_refuses h (own := ownSetLock) ?_,
      fun hlevel hlow => serve_refuses h (own := ownSetLock) ?_,
      fun hlevel hup => serve_answers h (own := ownSetLock) ?_⟩
    · rw [own_eq, if_pos hbad]
    · rw [own_eq, if_neg (Nat.not_lt_of_le hlevel), if_pos hlow]
    · rw [own_eq, if_neg (Nat.not_lt_of_le hlevel), if_neg (Nat.not_lt_of_le hup)]
      rfl

/-! ### Reads of the tables -/

theorem lockClass_byte (c : LockClass) : toBytes 1 c.code =
    [match c with | .free => (0 : Byte) | .timing => 1 | .geometry => 2] := by
  cases c <;> decide

theorem boundBytes_eq (o : Option Order) : boundBytes o =
    match o with
    | none => ([0, 0, 0, 0, 0, 0, 0] : List Byte)
    | some o => [0x01] ++ toBytes 4 o.number ++ toBytes 1 o.slot ++ toBytes 1 (codeOfOrder o.state) := by
  cases o
  · decide
  · rfl

theorem Order.bytes_eq (o : Order) : o.bytes =
    toBytes 1 o.slot ++ toBytes 1 o.cls ++ toBytes 2 o.dueWave ++ toBytes 2 o.dispatchDay ++
      toBytes 2 o.budget ++ toBytes 1 (codeOfOrder o.state) ++
      (match o.position with
        | none => ([0, 0] : List Byte)
        | some (n, p) => toBytes 1 (laneNumber n) ++ toBytes 1 p) ++
      toBytes 1 (flagNat o.short) ++ toBytes 2 o.placedWeight ++ toBytes 2 o.reservedWeight ++
      toBytes 1 (o.placedLayer.getD 0xFF) ++ toBytes 1 o.layerLevel ++
      toBytes 1 (o.layerCounts.getD 0 0) ++ toBytes 1 (o.layerCounts.getD 1 0) ++
      toBytes 1 (o.layerCounts.getD 2 0) ++ toBytes 1 (o.layerCounts.getD 3 0) ++
      toBytes 1 o.lines.length ++ o.lines.flatMap RecipeLine.bytes := by
  have hlayers : (List.range 4).flatMap (fun l => toBytes 1 (o.layerCounts.getD l 0)) =
      toBytes 1 (o.layerCounts.getD 0 0) ++ toBytes 1 (o.layerCounts.getD 1 0) ++
      toBytes 1 (o.layerCounts.getD 2 0) ++ toBytes 1 (o.layerCounts.getD 3 0) := rfl
  have hposition : toBytes 1 ((o.position.map fun p => laneNumber p.1).getD 0) ++
      toBytes 1 ((o.position.map (·.2)).getD 0) =
      match o.position with
      | none => ([0, 0] : List Byte)
      | some (n, p) => toBytes 1 (laneNumber n) ++ toBytes 1 p := by
    rcases o.position with _ | ⟨n, p⟩
    · decide
    · rfl
  rw [Order.bytes, hlayers, ← hposition]
  simp only [List.append_assoc]
  rfl

theorem badCode_iff (code : Nat) : badCode code = true ↔ code = 0 ∨ code = 0xFFFFFF := by
  simp [badCode]

theorem badCode_eq_false {code : Nat} (hzero : code ≠ 0) (hones : code ≠ 0xFFFFFF) :
    badCode code = false := by simp [badCode, hzero, hones]

/-- A lookup in an ascending table finds the record that holds the stock code, R32. -/
theorem lookup_eq_some_iff {t : List Product} (h : t.Pairwise fun a b => a.code < b.code) {code : Nat}
    {r : Product} : lookup code t = some r ↔ r ∈ t ∧ r.code = code := by
  induction t with
  | nil => simp [lookup]
  | cons y t ih =>
    obtain ⟨hy, ht⟩ := List.pairwise_cons.mp h
    have hfirst : ∀ x ∈ t, x.code ≠ y.code := fun x hx => (Nat.ne_of_lt (hy x hx)).symm
    rw [lookup, List.find?_cons]
    by_cases hcode : y.code = code
    · subst hcode
      simp only [beq_self_eq_true]
      constructor
      · rintro ⟨⟩
        exact ⟨List.mem_cons_self, rfl⟩
      · rintro ⟨hr, hcode⟩
        rcases List.mem_cons.mp hr with rfl | hr
        · rfl
        · exact absurd hcode (hfirst r hr)
    · simp only [beq_eq_false_iff_ne.mpr hcode]
      refine (ih ht).trans ⟨fun ⟨hr, hc⟩ => ⟨List.mem_cons_of_mem _ hr, hc⟩, fun ⟨hr, hc⟩ => ⟨?_, hc⟩⟩
      rcases List.mem_cons.mp hr with rfl | hr
      · exact absurd hc hcode
      · exact hr

theorem lookup_eq_none_iff {t : List Product} {code : Nat} :
    lookup code t = none ↔ ∀ r ∈ t, r.code ≠ code := by
  simp [lookup]

section
variable {body : List Byte} {s : State}

theorem ownReadParam_eq (hlength : body.length = 2) : ownReadParam body s =
    match paramOf (fieldAt body 0 1) (fieldAt body 1 1) with
    | none => .refuse s .badField
    | some p => .ok s (body ++ toBytes 4 (s.params.read p) ++ toBytes 1 p.lockClass.code) :=
  if_neg (not_not_intro hlength)

theorem ownReadRange_bad (hlength : body.length = 2) (h : 1 < fieldAt body 0 1 ∨ 23 < fieldAt body 1 1) :
    ownReadRange body s = .refuse s .badField :=
  (if_neg (not_not_intro hlength)).trans (if_pos h)

theorem ownReadRange_good (hlength : body.length = 2) (htable : fieldAt body 0 1 ≤ 1)
    (hindex : fieldAt body 1 1 ≤ 23) {r : RangeEntry}
    (hr : (if fieldAt body 0 1 = 0 then s.ranges.ranges else s.wave.ranges)[fieldAt body 1 1]? = some r) :
    ownReadRange body s = .ok s (body ++ r.bytes) := by
  have hgood : ¬ (1 < fieldAt body 0 1 ∨ Config.classRanges ≤ fieldAt body 1 1) :=
    fun h => h.elim (Nat.not_lt_of_le htable) (Nat.not_lt_of_le hindex)
  rw [ownReadRange, if_neg (not_not_intro hlength), if_neg hgood]
  simp only [List.getD_eq_getElem?_getD, hr]
  rfl

theorem ownReadClass_bad (hlength : body.length = 2) (h : 1 < fieldAt body 0 1 ∨ 15 < fieldAt body 1 1) :
    ownReadClass body s = .refuse s .badField :=
  (if_neg (not_not_intro hlength)).trans (if_pos h)

theorem ownReadClass_good (hlength : body.length = 2) (htable : fieldAt body 0 1 ≤ 1)
    (hindex : fieldAt body 1 1 ≤ 15) {e : ClassEntry}
    (he : (if fieldAt body 0 1 = 0 then s.ranges.classes else s.wave.classes)[fieldAt body 1 1]? =
      some e) :
    ownReadClass body s = .ok s (body ++ toBytes 1 e.shelfDays ++ toBytes 1 (flagNat e.layerRule)) := by
  have hgood : ¬ (1 < fieldAt body 0 1 ∨ Config.classes ≤ fieldAt body 1 1) :=
    fun h => h.elim (Nat.not_lt_of_le htable) (Nat.not_lt_of_le hindex)
  rw [ownReadClass, if_neg (not_not_intro hlength), if_neg hgood]
  simp only [List.getD_eq_getElem?_getD, he]
  rfl

theorem ownReadPosition_bad (hlength : body.length = 2)
    (h : ¬ (1 ≤ fieldAt body 0 1 ∧ fieldAt body 0 1 ≤ 8 ∧ 1 ≤ fieldAt body 1 1 ∧ fieldAt body 1 1 ≤ 15)) :
    ownReadPosition body s = .refuse s .badField := by
  rw [ownReadPosition, if_neg (not_not_intro hlength)]
  rcases hl : laneOf (fieldAt body 0 1) with _ | n
  · rfl
  · have hn := laneNumber_bounds n
    rw [← laneOf_eq_some.mp hl] at hn
    refine if_pos ?_
    simp only [Config.hamperPositions]
    omega

theorem ownReadPosition_good (hlength : body.length = 2) {n : Lane} (hn : laneNumber n = fieldAt body 0 1)
    (hlow : 1 ≤ fieldAt body 1 1) (hhigh : fieldAt body 1 1 ≤ 15) : ownReadPosition body s =
    .ok s (toBytes 1 (light s n (fieldAt body 1 1)).code ++
      toBytes 1 (s.divert.laneStates.get n).code ++ boundBytes (s.book.boundAt n (fieldAt body 1 1))) := by
  have hgood : ¬ (fieldAt body 1 1 < 1 ∨ Config.hamperPositions < fieldAt body 1 1) :=
    fun h => h.elim (Nat.not_lt_of_le hlow) (Nat.not_lt_of_le hhigh)
  rw [ownReadPosition, if_neg (not_not_intro hlength), ← hn, laneOf_laneNumber]
  exact if_neg hgood

theorem withOrder_eq (hlength : body.length = 4) (own : Order → State → Answer) : withOrder own body s =
    if fieldAt body 0 4 = 0 then .refuse s .badField
    else
      match s.book.byNumber (fieldAt body 0 4) with
      | none => .refuse s .notFound
      | some o => own o s := if_neg (not_not_intro hlength)

theorem withOrder_found (hlength : body.length = 4) (hnumber : fieldAt body 0 4 ≠ 0) {o : Order}
    (ho : s.book.byNumber (fieldAt body 0 4) = some o) (own : Order → State → Answer) :
    withOrder own body s = own o s := by
  rw [withOrder_eq hlength, if_neg hnumber, ho]

theorem withOrder_missing (hlength : body.length = 4) (hnumber : fieldAt body 0 4 ≠ 0)
    (h : ∀ o ∈ s.book.orders, o.number ≠ fieldAt body 0 4) (own : Order → State → Answer) :
    withOrder own body s = .refuse s .notFound := by
  have ho : s.book.byNumber (fieldAt body 0 4) = none := by
    simpa [OrderBook.byNumber] using h
  rw [withOrder_eq hlength, if_neg hnumber, ho]

theorem withOrder_zero (hlength : body.length = 4) (hnumber : fieldAt body 0 4 = 0)
    (own : Order → State → Answer) : withOrder own body s = .refuse s .badField := by
  rw [withOrder_eq hlength, if_pos hnumber]

theorem ownReadProduct_of_code (hlength : body.length = 3) : ownReadProduct body s =
    if badCode (fieldAt body 0 3) then .refuse s .badField
    else readFound (lookup (fieldAt body 0 3) s.catalogue) s := if_pos hlength

theorem ownReadProduct_of_rank (hlength : body.length = 2) : ownReadProduct body s =
    if Config.catalogueRecords ≤ fieldAt body 0 2 then .refuse s .badField
    else readFound (s.catalogue[fieldAt body 0 2]?) s := by
  rw [ownReadProduct, if_neg (by omega), if_pos hlength]

end

/-- READ_PRODUCT answers the record found, by its stock code or by its rank. -/
theorem ownReadProduct_found {body : List Byte} {s : State} (hlaw : CatalogueLaw s) {r : Product}
    (hr : r ∈ s.catalogue)
    (h : (body.length = 3 ∧ r.code = fieldAt body 0 3) ∨
      (body.length = 2 ∧ s.catalogue[fieldAt body 0 2]? = some r)) :
    ownReadProduct body s = .ok s (productBytes r s.catalogue) := by
  rcases h with ⟨hlength, hcode⟩ | ⟨hlength, hrank⟩
  · obtain ⟨hlow, hhigh, -⟩ := hlaw.fields r hr
    have hgood : badCode (fieldAt body 0 3) = false :=
      badCode_eq_false (by omega) (by omega)
    rw [ownReadProduct_of_code hlength, hgood,
      (lookup_eq_some_iff hlaw.sorted).mpr ⟨hr, hcode⟩]
    rfl
  · have hheld : ¬ Config.catalogueRecords ≤ fieldAt body 0 2 := Nat.not_le_of_lt
      (Nat.lt_of_lt_of_le (List.getElem?_eq_some_iff.mp hrank).1 hlaw.size)
    rw [ownReadProduct_of_rank hlength, if_neg hheld, hrank]
    rfl

/-- Settles O17: each read answers the layout of Section 9.8 for the entry named, and leaves the state. -/
theorem tableReadsAnswerWhatStands : Obligations.TableReadsAnswerWhatStands := by
  intro q s h
  refine ⟨fun hlength => ⟨fun p hp => ?param, fun hp => ?noParam,
      fun hbad => serve_refuses h (own := ownReadRange) (ownReadRange_bad hlength hbad),
      fun r htable hindex hr => ?range,
      fun hbad => serve_refuses h (own := ownReadClass) (ownReadClass_bad hlength hbad),
      fun e htable hindex he => ?cls,
      fun hbad => serve_refuses h (own := ownReadPosition) (ownReadPosition_bad hlength hbad),
      fun n hn hlow hhigh => ?position⟩,
    fun hlength o hnumber ho => ?order, fun hbad => ?badProduct, fun hnone => ?noProduct,
    fun r hlaw hr hfound => ?product⟩
  case param =>
    refine serve_answers h (own := ownReadParam) ((ownReadParam_eq hlength).trans ?_)
    unfold Request.num at hp
    simp only [hp, lockClass_byte] <;> rfl
  case noParam =>
    refine serve_refuses h (own := ownReadParam) ((ownReadParam_eq hlength).trans ?_)
    unfold Request.num at hp
    rw [hp]
  case range =>
    refine serve_answers h (own := ownReadRange) ((ownReadRange_good hlength htable hindex hr).trans ?_)
    simp only [RangeEntry.bytes, List.append_assoc]
    rfl
  case cls => exact serve_answers h (own := ownReadClass) (ownReadClass_good hlength htable hindex he)
  case position =>
    refine serve_answers h (own := ownReadPosition)
      ((ownReadPosition_good hlength hn hlow hhigh).trans ?_)
    rw [boundBytes_eq]
    rfl
  case order =>
    refine serve_answers h (own := ownReadOrder) ((withOrder_found hlength hnumber ho _).trans ?_)
    rw [Order.bytes_eq]
    rfl
  case badProduct =>
    refine serve_refuses h (own := ownReadProduct) ?_
    rcases hbad with ⟨hlength, hcode⟩ | ⟨hlength, hrank⟩
    · exact (ownReadProduct_of_code hlength).trans (if_pos ((badCode_iff _).mpr hcode))
    · exact (ownReadProduct_of_rank hlength).trans (if_pos hrank)
  case noProduct =>
    refine serve_refuses h (own := ownReadProduct) ?_
    rcases hnone with ⟨hlength, hzero, hones, hfree⟩ | ⟨hlength, hrank, hfree⟩
    · have hgood : badCode (fieldAt q.body 0 3) = false := badCode_eq_false hzero hones
      have hlookup : lookup (fieldAt q.body 0 3) s.catalogue = none := lookup_eq_none_iff.mpr hfree
      rw [ownReadProduct_of_code hlength, hgood, hlookup]
      rfl
    · have hlow : ¬ Config.catalogueRecords ≤ fieldAt q.body 0 2 := 
        Nat.not_le_of_lt (Nat.lt_succ_of_le hrank)
      have hrecord : s.catalogue[fieldAt q.body 0 2]? = none := List.getElem?_eq_none hfree
      rw [ownReadProduct_of_rank hlength, if_neg hlow, hrecord]
      rfl
  case product =>
    exact serve_answers h (own := ownReadProduct) (ownReadProduct_found hlaw hr hfound)

end Sys2Proof.Machine

end

section
/-! PROOFS. The requests that change the product table (R28 to R30), the staged tables (R132 to R134), the refusal
record (R39, R41) and the wave (R139). -/

namespace Sys2Proof.Machine

/-! ### Fields of one byte -/

theorem fieldAt_one (body : List Byte) (start : Nat) :
    fieldAt body start 1 = (body.getD start 0).toNat := by
  rw [fieldAt, List.getD_eq_getElem?_getD, ← List.head?_drop]
  rcases body.drop start with _ | ⟨b, bs⟩
  · rfl
  · simp [be]

/-- A flag in bit 0 of a byte is set where the byte is odd. -/
theorem lowBit_iff (body : List Byte) (start : Nat) :
    (body.getD start 0).getLsbD 0 = (fieldAt body start 1 % 2 == 1) := by
  rw [fieldAt_one, BitVec.getLsbD, Nat.testBit_zero]
  rfl

/-! ### The product table -/

theorem toleranceUsed_eq (v : Nat) : toleranceUsed v = min 50 v := by
  unfold toleranceUsed
  split <;> omega

theorem mem_insertProduct_iff {r x : Product} {t : List Product}
    (h : t.Pairwise fun a b => a.code < b.code) :
    x ∈ insertProduct r t ↔ x = r ∨ (x ∈ t ∧ x.code ≠ r.code) := by
  induction t with
  | nil => simp [insertProduct]
  | cons y t ih =>
    obtain ⟨hy, ht⟩ := List.pairwise_cons.mp h
    rw [insertProduct]
    split
    next hlt =>
      have hfree : ∀ z ∈ y :: t, z.code ≠ r.code := by
        intro z hz
        rcases List.mem_cons.mp hz with rfl | hz
        · exact (Nat.ne_of_lt hlt).symm
        · exact (Nat.ne_of_lt (Nat.lt_trans hlt (hy z hz))).symm
      rw [List.mem_cons]
      exact or_congr_right ⟨fun hx => ⟨hx, hfree x hx⟩, fun hx => hx.1⟩
    next hge =>
      split
      next heq =>
        have hfree : ∀ z ∈ t, z.code ≠ r.code := fun z hz =>
          heq ▸ (Nat.ne_of_lt (hy z hz)).symm
        rw [List.mem_cons, List.mem_cons]
        refine or_congr_right ⟨fun hx => ⟨Or.inr hx, hfree x hx⟩, fun ⟨hx, hcode⟩ => ?_⟩
        rcases hx with rfl | hx
        · exact absurd heq.symm hcode
        · exact hx
      next hne =>
        rw [List.mem_cons, List.mem_cons, ih ht]
        constructor
        · rintro (rfl | rfl | ⟨hx, hcode⟩)
          · exact Or.inr ⟨Or.inl rfl, fun h => hne h.symm⟩
          · exact Or.inl rfl
          · exact Or.inr ⟨Or.inr hx, hcode⟩
        · rintro (rfl | ⟨rfl | hx, hcode⟩)
          · exact Or.inr (Or.inl rfl)
          · exact Or.inl rfl
          · exact Or.inr (Or.inr ⟨hx, hcode⟩)

/-- A lookup of the code inserted finds the record inserted, R32. -/
theorem lookup_insertProduct_self (r : Product) {t : List Product}
    (h : t.Pairwise fun a b => a.code < b.code) : lookup r.code (insertProduct r t) = some r :=
  (lookup_eq_some_iff (insertProduct_pairwise r h)).mpr
    ⟨(mem_insertProduct_iff h).mpr (Or.inl rfl), rfl⟩

theorem lookup_insertProduct_of_ne (r : Product) {t : List Product}
    (h : t.Pairwise fun a b => a.code < b.code) {c : Nat} (hc : c ≠ r.code) :
    lookup c (insertProduct r t) = lookup c t := by
  refine Option.ext fun x => ?_
  rw [lookup_eq_some_iff (insertProduct_pairwise r h), lookup_eq_some_iff h, mem_insertProduct_iff h]
  constructor
  · rintro ⟨rfl | ⟨hx, -⟩, hcode⟩
    · exact absurd hcode.symm hc
    · exact ⟨hx, hcode⟩
  · rintro ⟨hx, rfl⟩
    exact ⟨Or.inr ⟨hx, hc⟩, rfl⟩

/-- The rank of a code is that of the codes below it: the record of the code itself does not count. -/
theorem rankOf_insertProduct (r : Product) (t : List Product) :
    rankOf r.code (insertProduct r t) = rankOf r.code t := by
  induction t with
  | nil => simp [insertProduct, rankOf]
  | cons y t ih =>
    unfold rankOf at ih ⊢
    rw [insertProduct]
    split
    next hlt => simp
    next hge =>
      split
      next heq => simp [heq]
      next hne =>
        rw [List.filter_cons, List.filter_cons]
        split
        · rw [List.length_cons, List.length_cons, ih]
        · exact ih

theorem insertProduct_length_of_free {r : Product} {t : List Product}
    (h : lookup r.code t = none) : (insertProduct r t).length = t.length + 1 := by
  induction t with
  | nil => rfl
  | cons y t ih =>
    have hfree := lookup_eq_none_iff.mp h
    have hy : r.code ≠ y.code := (hfree y List.mem_cons_self).symm
    rw [insertProduct, if_neg hy]
    split
    · rfl
    · rw [List.length_cons, List.length_cons,
        ih (lookup_eq_none_iff.mpr fun x hx => hfree x (List.mem_cons_of_mem y hx))]

theorem insertProduct_length (r : Product) {t : List Product}
    (h : t.Pairwise fun a b => a.code < b.code) : (insertProduct r t).length =
      t.length + if (lookup r.code t).isSome then 0 else 1 := by
  rcases hl : lookup r.code t with _ | x
  · rw [insertProduct_length_of_free hl]
    rfl
  · have hx := (lookup_eq_some_iff h).mp hl
    rw [insertProduct_length_of_held h ⟨x, hx⟩]
    rfl

theorem lookup_filter_self (code : Nat) (t : List Product) :
    lookup code (t.filter fun r => r.code != code) = none := by
  refine lookup_eq_none_iff.mpr fun r hr => ?_
  simpa using (List.mem_filter.mp hr).2

theorem lookup_filter_of_ne {code c : Nat} (hc : c ≠ code) (t : List Product) :
    lookup c (t.filter fun r => r.code != code) = lookup c t := by
  rw [lookup, List.find?_filter, lookup]
  congr 1
  funext r
  by_cases h : r.code = c
  · subst h
    simp [hc]
  · simp [h]

/-- Deleting the one record of a stock code takes one record off an ascending table. -/
theorem length_filter_of_held {t : List Product} (h : t.Pairwise fun a b => a.code < b.code)
    {x : Product} (hx : x ∈ t) : (t.filter fun r => r.code != x.code).length + 1 = t.length := by
  induction t with
  | nil => exact absurd hx List.not_mem_nil
  | cons y t ih =>
    obtain ⟨hy, ht⟩ := List.pairwise_cons.mp h
    rw [List.filter_cons]
    rcases List.mem_cons.mp hx with rfl | hx
    · have hall : t.filter (fun r => r.code != x.code) = t :=
        List.filter_eq_self.mpr fun r hr => bne_iff_ne.mpr (Nat.ne_of_lt (hy r hr)).symm
      simp [hall]
    · have hyx : (y.code != x.code) = true := bne_iff_ne.mpr (Nat.ne_of_lt (hy x hx))
      rw [if_pos hyx, List.length_cons, ih ht hx, List.length_cons]

section
variable {body : List Byte} {s : State}

theorem productOf_eq (body : List Byte) : productOf body =
    { code := fieldAt body 0 3, group := fieldAt body 3 2, layer := fieldAt body 5 1
      nominal := fieldAt body 6 2, tolerance := min 50 (fieldAt body 8 1)
      dated := fieldAt body 9 1 % 2 == 1 } := by
  rw [productOf, toleranceUsed_eq, lowBit_iff]

theorem productBad_iff (body : List Byte) : productBad (productOf body) = true ↔
    fieldAt body 0 3 = 0 ∨ fieldAt body 0 3 = 0xFFFFFF ∨ 1023 < fieldAt body 3 2 ∨
      3 < fieldAt body 5 1 ∨ fieldAt body 6 2 = 0 ∨ fieldAt body 6 2 = 0xFFFF := by
  simp [productBad, badCode, productOf, or_assoc]

theorem productBad_eq_false (hzero : fieldAt body 0 3 ≠ 0) (hones : fieldAt body 0 3 ≠ 0xFFFFFF)
    (hgroup : fieldAt body 3 2 ≤ 1023) (hlayer : fieldAt body 5 1 ≤ 3)
    (hnominal : fieldAt body 6 2 ≠ 0) (hnominal' : fieldAt body 6 2 ≠ 0xFFFF) :
    productBad (productOf body) = false := by
  refine Bool.eq_false_iff.mpr fun hbad => ?_
  have := (productBad_iff body).mp hbad
  omega

theorem ownLoadProduct_eq (hlength : body.length = 10) : ownLoadProduct body s =
    if productBad (productOf body) then .refuse s .badField
    else if (lookup (fieldAt body 0 3) s.catalogue).isSome = false ∧ 4096 ≤ s.catalogue.length then
      .refuse s .noSpace
    else Answer.done (s.onCatalogue fun _ => insertProduct (productOf body) s.catalogue)
      (min 50 (fieldAt body 8 1) != fieldAt body 8 1)
      (toBytes 1 (flagNat (lookup (fieldAt body 0 3) s.catalogue).isSome) ++
        toBytes 2 (rankOf (fieldAt body 0 3) s.catalogue) ++
        toBytes 2 (insertProduct (productOf body) s.catalogue).length ++
        toBytes 1 (min 50 (fieldAt body 8 1))) := by
  have hrank := rankOf_insertProduct (productOf body) s.catalogue
  rw [ownLoadProduct, if_neg (not_not_intro hlength), ← toleranceUsed_eq]
  simp only [hrank]
  rfl

theorem ownDeleteProduct_eq (hlength : body.length = 3) : ownDeleteProduct body s =
    if badCode (fieldAt body 0 3) then .refuse s .badField
    else if (lookup (fieldAt body 0 3) s.catalogue).isNone then .refuse s .notFound
    else .ok (s.onCatalogue fun _ => s.catalogue.filter fun r => r.code != fieldAt body 0 3)
      (toBytes 2 (rankOf (fieldAt body 0 3) s.catalogue) ++
        toBytes 2 (s.catalogue.filter fun r => r.code != fieldAt body 0 3).length) :=
  if_neg (not_not_intro hlength)

end

theorem done_min (t : State) (v : Nat) (body : List Byte) : Answer.done t (min 50 v != v) body =
    { state := t, result := if 50 < v then .adjusted else .ok, body := body } := by
  rw [Answer.done]
  congr 1
  by_cases h : 50 < v
  · rw [if_pos h, if_pos (bne_iff_ne.mpr (by omega))]
  · rw [if_neg h, if_neg (by simp; omega)]

/-- Settles O18: an accepted load leaves the table with the record inserted, a delete the table filtered. -/
theorem productsAreLoadedAndDeleted : Obligations.ProductsAreLoadedAndDeleted := by
  refine ⟨fun q s h hlaw hlength => ⟨fun hbad => ?bad, fun hzero hones hgroup hlayer hnominal hnominal' =>
      ⟨fun hfree hfull => ?full, fun hroom => ⟨insertProduct (productOf q.body) s.catalogue, ?load,
        ?found, fun c hc => ?others, insertProduct_pairwise _ hlaw.sorted,
        insertProduct_length _ hlaw.sorted⟩⟩⟩,
    fun q s h hlaw hlength => ⟨fun hbad => ?badCode, fun hzero hones hfree => ?missing,
      fun hzero hones hheld => ⟨s.catalogue.filter fun r => r.code != q.num 0 3, ?delete,
        lookup_filter_self _ _, fun c hc => lookup_filter_of_ne hc _, ?shorter⟩⟩⟩
  case bad =>
    refine serve_refuses h (own := ownLoadProduct) ((ownLoadProduct_eq hlength).trans ?_)
    exact if_pos ((productBad_iff _).mpr hbad)
  case full =>
    have hgood := productBad_eq_false hzero hones hgroup hlayer hnominal hnominal'
    refine serve_refuses h (own := ownLoadProduct) ((ownLoadProduct_eq hlength).trans ?_)
    have hnone : (lookup (fieldAt q.body 0 3) s.catalogue).isSome = false :=
      Option.isSome_eq_false_iff.mpr (Option.isNone_iff_eq_none.mpr hfree)
    rw [hgood, if_neg Bool.false_ne_true, if_pos ⟨hnone, hfull⟩]
  case load =>
    have hgood := productBad_eq_false hzero hones hgroup hlayer hnominal hnominal'
    refine serve_answers h (own := ownLoadProduct) ((ownLoadProduct_eq hlength).trans ?_)
    have hspace : ¬ ((lookup (fieldAt q.body 0 3) s.catalogue).isSome = false ∧
        4096 ≤ s.catalogue.length) := by
      rintro ⟨hfree, hfull⟩
      exact hroom.elim (fun hheld => by simp [Request.num, hfree] at hheld)
        (Nat.not_lt_of_le hfull)
    rw [hgood, if_neg Bool.false_ne_true, if_neg hspace, done_min]
    rfl
  case found =>
    refine Eq.trans ?_ (congrArg some (productOf_eq q.body))
    exact lookup_insertProduct_self (productOf q.body) hlaw.sorted
  case others => exact lookup_insertProduct_of_ne (productOf q.body) hlaw.sorted hc
  case badCode =>
    refine serve_refuses h (own := ownDeleteProduct) ((ownDeleteProduct_eq hlength).trans ?_)
    exact if_pos ((badCode_iff _).mpr hbad)
  case missing =>
    refine serve_refuses h (own := ownDeleteProduct) ((ownDeleteProduct_eq hlength).trans ?_)
    have hgood : badCode (fieldAt q.body 0 3) = false := badCode_eq_false hzero hones
    rw [hgood]
    exact if_pos (Option.isNone_iff_eq_none.mpr hfree)
  case delete =>
    have hnone : (lookup (fieldAt q.body 0 3) s.catalogue).isNone = false :=
      Option.isNone_eq_false_iff.mpr hheld
    refine serve_answers h (own := ownDeleteProduct) ((ownDeleteProduct_eq hlength).trans ?_)
    have hgood : badCode (fieldAt q.body 0 3) = false := badCode_eq_false hzero hones
    rw [hgood, hnone]
    rfl
  case shorter =>
    obtain ⟨x, hx, hcode⟩ := (lookup_isSome_iff _ _).mp hheld
    rw [← hcode]
    exact length_filter_of_held hlaw.sorted hx

/-! ### The staged tables -/

theorem roundStart_spec (v : Nat) :
    roundStart v % 16 = 0 ∧ roundStart v ≤ v ∧ v < roundStart v + 16 := by
  unfold roundStart
  omega

theorem roundEnd_spec (v : Nat) : roundEnd v % 16 = 15 ∧ v ≤ roundEnd v ∧ roundEnd v < v + 16 := by
  unfold roundEnd
  omega

theorem flagNat_of_le {v : Nat} (h : v ≤ 1) : flagNat (v == 1) = v := by
  obtain rfl | rfl : v = 0 ∨ v = 1 := by omega
  · rfl
  · rfl

section
variable {body : List Byte} {s : State}

theorem ownStageRange_eq (hlength : body.length = 14) : ownStageRange body s =
    if 24 ≤ fieldAt body 0 1 ∨ 1 < fieldAt body 1 1 ∨ fieldAt body 5 3 < fieldAt body 2 3 then
      .refuse s .badField
    else Answer.done
      (s.onWave fun w => { w with ranges := w.ranges.set (fieldAt body 0 1) (rangeOf body) })
      (roundStart (fieldAt body 2 3) != fieldAt body 2 3 || roundEnd (fieldAt body 5 3) != fieldAt body 5 3)
      (toBytes 1 (fieldAt body 0 1) ++ toBytes 3 (roundStart (fieldAt body 2 3)) ++
        toBytes 3 (roundEnd (fieldAt body 5 3)) ++ toBytes 1 (flagNat (fieldAt body 1 1 == 1))) :=
  if_neg (not_not_intro hlength)

theorem ownStageClass_eq (hlength : body.length = 3) : ownStageClass body s =
    if 16 ≤ fieldAt body 0 1 ∨ 1 < fieldAt body 2 1 then .refuse s .badField
    else .ok
      (s.onWave fun w =>
        { w with
          classes := w.classes.set (fieldAt body 0 1)
            { shelfDays := fieldAt body 1 1, layerRule := fieldAt body 2 1 == 1 } })
      (toBytes 1 (fieldAt body 0 1) ++ toBytes 1 (fieldAt body 1 1) ++
        toBytes 1 (flagNat (fieldAt body 2 1 == 1))) :=
  if_neg (not_not_intro hlength)

end

theorem done_of_two (t : State) (a a' b b' : Nat) (body : List Byte) :
    Answer.done t (a != a' || b != b') body =
      { state := t, result := if a = a' ∧ b = b' then .ok else .adjusted, body := body } := by
  rw [Answer.done]
  congr 1
  by_cases h : a = a' ∧ b = b'
  · rw [if_pos h, h.1, h.2]
    simp
  · rw [if_neg h, if_pos]
    simpa [Bool.or_eq_true, bne_iff_ne, ← Classical.not_and_iff_not_or_not] using h

/-- Settles O19: the codes used are the roundings outward, and the entry is set in its place. -/
theorem stagingReplacesStagedEntry : Obligations.StagingReplacesStagedEntry := by
  intro q s h
  refine ⟨fun hlength => ⟨fun hbad => ?badRange, fun hindex hvalid horder =>
      ⟨roundStart (q.num 2 3), roundEnd (q.num 5 3), (roundStart_spec _).1, (roundStart_spec _).2.1,
        (roundStart_spec _).2.2, (roundEnd_spec _).1, (roundEnd_spec _).2.1, (roundEnd_spec _).2.2,
        ?range⟩⟩,
    fun hlength => ⟨fun hbad => ?badClass, fun hcls hrule => ?cls⟩⟩
  case badRange =>
    exact serve_refuses h (own := ownStageRange) ((ownStageRange_eq hlength).trans (if_pos hbad))
  case range =>
    have hgood : ¬ (24 ≤ fieldAt q.body 0 1 ∨ 1 < fieldAt q.body 1 1 ∨
        fieldAt q.body 5 3 < fieldAt q.body 2 3) := by
      unfold Request.num at hindex hvalid horder
      omega
    refine serve_answers h (own := ownStageRange) ((ownStageRange_eq hlength).trans ?_)
    have hflag : flagNat (fieldAt q.body 1 1 == 1) = fieldAt q.body 1 1 := flagNat_of_le hvalid
    rw [if_neg hgood, done_of_two, hflag]
    rfl
  case badClass =>
    exact serve_refuses h (own := ownStageClass) ((ownStageClass_eq hlength).trans (if_pos hbad))
  case cls =>
    have hgood : ¬ (16 ≤ fieldAt q.body 0 1 ∨ 1 < fieldAt q.body 2 1) := by
      unfold Request.num at hcls hrule
      omega
    refine serve_answers h (own := ownStageClass) ((ownStageClass_eq hlength).trans ?_)
    have hflag : flagNat (fieldAt q.body 2 1 == 1) = fieldAt q.body 2 1 := flagNat_of_le hrule
    rw [if_neg hgood, hflag]
    rfl

/-! ### The refusal record -/

/-- The Class Range Unit after a class refusal, R39. -/
def ClassRangeUnit.refused (u : ClassRangeUnit) (r : Refused) : ClassRangeUnit :=
  match u.record with
  | none => { u with count := bump16 u.count, record := some r }
  | some _ => { u with count := bump16 u.count, more := true }

theorem classRefusal_eq (c : Candidate) (cause : Cause) (sc : Scan) (s : State) :
    classRefusal c cause sc s = report
      { kind := .classRefusal, detail := cause.code, lane := laneNumber c.lane
        position := some c.position, order := c.order.number, stock := sc.stock
        carrier := sc.carrier }
      { s with
        ranges := s.ranges.refused
          { stock := sc.stock, cls := c.order.cls, kind := c.kind, cause := cause
            wave := s.wave.counter, order := c.order.number } } := rfl

theorem refused_tables (u : ClassRangeUnit) (r : Refused) :
    (u.refused r).ranges = u.ranges ∧ (u.refused r).classes = u.classes ∧
      (u.refused r).count = bump16 u.count := by
  unfold ClassRangeUnit.refused
  split <;> exact ⟨rfl, rfl, rfl⟩

theorem refused_of_empty {u : ClassRangeUnit} (h : u.record = none) (r : Refused) :
    (u.refused r).more = u.more ∧ (u.refused r).record = some r := by
  rw [ClassRangeUnit.refused, h]
  exact ⟨rfl, rfl⟩

theorem refused_of_held {u : ClassRangeUnit} (h : u.record ≠ none) (r : Refused) :
    (u.refused r).record = u.record ∧ (u.refused r).more = true := by
  obtain ⟨x, hx⟩ := Option.ne_none_iff_exists'.mp h
  rw [ClassRangeUnit.refused, hx]
  exact ⟨rfl, rfl⟩

/-- Settles O21: the record of the first refusal stands until CLEAR_REFUSAL. -/
theorem refusalRecordKeepsTheFirst : Obligations.RefusalRecordKeepsTheFirst := by
  refine ⟨fun c cause sc s => ⟨s.ranges.refused _, ?refusal, (refused_tables _ _).1,
      (refused_tables _ _).2.1, (refused_tables _ _).2.2, fun h => refused_of_empty h _,
      fun h => refused_of_held h _⟩,
    fun q s h hbody => serve_answers h (own := ownClearRefusal) (emptyBody_nil hbody _ s)⟩
  case refusal =>
    rw [classRefusal_eq]
    cases cause <;> rfl

/-! ### ADVANCE_WAVE -/

theorem advance_counter (detail : Nat) (s : State) :
    (advance detail s).wave.counter = bump16 s.wave.counter := by
  rw [advance, report_wave, promote_wave]
  rfl

/-- Settles O22: the three answers of ADVANCE_WAVE. -/
theorem advanceIsPerformedLatchedOrBusy : Obligations.AdvanceIsPerformedLatchedOrBusy := by
  intro q s h hbody
  have own_eq : ownAdvanceWave q.body s = requestAdvance s := emptyBody_nil hbody _ s
  refine ⟨fun hlatch => ?busy, fun hlatch hheld => ?latched, fun hlatch hheld => ?performed⟩
  case busy =>
    exact serve_answers h (own := ownAdvanceWave) (own_eq.trans (if_pos hlatch))
  case latched =>
    refine serve_answers h (own := ownAdvanceWave) (own_eq.trans ?_)
    exact (if_neg (not_not_intro hlatch)).trans (if_pos hheld)
  case performed =>
    refine serve_answers h (own := ownAdvanceWave) (own_eq.trans ?_)
    rw [requestAdvance, if_neg (not_not_intro hlatch), if_neg hheld]
    simp only [advance_counter]
    rfl

end Sys2Proof.Machine

end

section
/-! PROOFS. The order requests: LOAD_ORDER (R3 to R6), the cancel of an order not bound and SHORT_CLOSE (R17, R18),
and the three operations on the accounts with the complete-check (R11 to R16). -/

namespace Sys2Proof.Machine

/-! ### The accounts -/

theorem Order.confirm_eq (o : Order) (line w l : Nat) : o.confirm line w l =
    { o with
      lines := o.lines.modify line fun x =>
        { x with reserved := x.reserved - 1, placed := x.placed + 1 }
      reservedWeight := o.reservedWeight - w
      placedWeight := o.placedWeight + w
      layerCounts := o.layerCounts.modify l fun n => n - 1
      placedLayer :=
        match o.placedLayer with
        | none => some l
        | some m => some (max m l) } := by
  unfold Order.confirm
  cases o.placedLayer with
  | none => simp
  | some m => rfl

section
variable {slot : Nat} {s : State} {o : Order}

theorem completeCheck_of_empty (h : s.book.atSlot slot = none) : completeCheck slot s = s := by
  rw [completeCheck, h]

theorem completeCheck_of_opened (ho : s.book.atSlot slot = some o) (hstate : o.state = .opened) :
    completeCheck slot s = if o.filled then enterComplete o false s else s := by
  rw [completeCheck, ho]
  simp only [hstate]

theorem completeCheck_of_shorting (ho : s.book.atSlot slot = some o) (hstate : o.state = .shorting) :
    completeCheck slot s = if o.reservations = 0 then enterComplete o true s else s := by
  rw [completeCheck, ho]
  simp only [hstate]

theorem completeCheck_of_other (ho : s.book.atSlot slot = some o) (hopen : o.state ≠ .opened)
    (hshort : o.state ≠ .shorting) : completeCheck slot s = s := by
  rw [completeCheck, ho]
  cases hs : o.state with
  | opened => exact absurd hs hopen
  | shorting => exact absurd hs hshort
  | staged | queued | complete | cancelled => simp only [hs]

theorem Order.filled_iff : o.filled = true ↔ ∀ x ∈ o.lines, x.placed = x.quantity := by
  simp [Order.filled]

end

/-- Settles O28: reserve, confirm and release change one order, and the complete-check follows the state and
the accounts of the order it finds. -/
theorem reservationAccountsAreKept : Obligations.ReservationAccountsAreKept := by
  intro slot line w l s
  refine ⟨rfl, ?confirm, rfl, completeCheck_of_empty, fun o ho =>
    ⟨fun hstate hall => ?filled, fun hstate hsome => ?unfilled, fun hstate hnone => ?done,
      fun hstate hsome => ?shorting, fun hopen hshort => completeCheck_of_other ho hopen hshort⟩⟩
  case confirm =>
    simp only [confirm, Order.confirm_eq] <;> rfl
  case filled =>
    rw [completeCheck_of_opened ho hstate, if_pos (Order.filled_iff.mpr hall)]
    rfl
  case unfilled =>
    obtain ⟨x, hx, hne⟩ := hsome
    rw [completeCheck_of_opened ho hstate, if_neg fun h => hne (Order.filled_iff.mp h x hx)]
  case done =>
    rw [completeCheck_of_shorting ho hstate]
    exact if_pos hnone
  case shorting =>
    rw [completeCheck_of_shorting ho hstate]
    exact if_neg hsome

/-! ### CANCEL_ORDER and SHORT_CLOSE -/

theorem cancelFound_of_ended {o : Order} (h : o.state = .complete ∨ o.state = .cancelled) (s : State) :
    cancelFound o s = .refuse s .wrongState := by
  unfold cancelFound
  rcases h with h | h <;> simp only [h]

theorem cancelFound_of_unbound {o : Order} (h : o.state = .staged ∨ o.state = .queued) (s : State) :
    cancelFound o s = .ok (count .ordersCancelled (s.onBook fun b => b.empty o)) (toBytes 1 0) := by
  unfold cancelFound
  rcases h with h | h <;> simp only [h]

theorem cancelFound_of_bound {o : Order} (h : o.state = .opened ∨ o.state = .shorting) (s : State) :
    cancelFound o s = .ok (count .ordersCancelled (withLights (cancelInFlight o) s))
      (toBytes 1 OrderState.cancelled.code) := by
  unfold cancelFound
  rcases h with h | h <;> simp only [h]

theorem shortCloseFound_of_not_opened {o : Order} (h : o.state ≠ .opened) (s : State) :
    shortCloseFound o s = .refuse s .wrongState := if_neg h

theorem shortCloseFound_of_opened {o : Order} (h : o.state = .opened) (s : State) :
    shortCloseFound o s = .ok (relight s (shortCloseOpen o s))
      (toBytes 1 (if o.reservations = 0 then OrderState.complete.code
        else OrderState.shorting.code) ++ toBytes 1 o.reservations) := if_pos h

/-- Settles O25: the three requests find the order by its number; what they then refuse, and the cancel of an
order that is not bound. -/
theorem cancelEmptiesUnboundOrder : Obligations.CancelEmptiesUnboundOrder := by
  intro q s h hlength
  refine ⟨fun hzero => ⟨?_, ?_, ?_⟩, fun hnumber hfree => ⟨?_, ?_, ?_⟩, fun o hnumber ho =>
    ⟨fun hended => ?ended, fun hstate => ?notOpen, fun hunbound => ?unbound⟩⟩
  · exact serve_refuses h (own := ownCancelOrder) (withOrder_zero hlength hzero _)
  · exact serve_refuses h (own := ownShortClose) (withOrder_zero hlength hzero _)
  · exact serve_refuses h (own := ownReadOrder) (withOrder_zero hlength hzero _)
  · exact serve_refuses h (own := ownCancelOrder) (withOrder_missing hlength hnumber hfree _)
  · exact serve_refuses h (own := ownShortClose) (withOrder_missing hlength hnumber hfree _)
  · exact serve_refuses h (own := ownReadOrder) (withOrder_missing hlength hnumber hfree _)
  case ended =>
    exact serve_refuses h (own := ownCancelOrder)
      ((withOrder_found hlength hnumber ho _).trans (cancelFound_of_ended hended s))
  case notOpen =>
    exact serve_refuses h (own := ownShortClose)
      ((withOrder_found hlength hnumber ho _).trans (shortCloseFound_of_not_opened hstate s))
  case unbound =>
    exact serve_answers h (own := ownCancelOrder)
      ((withOrder_found hlength hnumber ho _).trans (cancelFound_of_unbound hunbound s))

/-- Settles O27: the reservations in flight decide between COMPLETE and SHORTING. -/
theorem shortCloseCompletesOrShorts : Obligations.ShortCloseCompletesOrShorts := by
  intro q s o h hlength hnumber ho hstate
  have own_eq := (withOrder_found hlength hnumber ho shortCloseFound).trans
    (shortCloseFound_of_opened hstate s)
  refine ⟨fun hnone => ?completes, fun hsome => ?shorts⟩
  case completes =>
    have hres : o.reservations = 0 := hnone
    rw [shortCloseOpen, if_pos hres, if_pos hres, hres] at own_eq
    exact serve_answers h (own := ownShortClose) own_eq
  case shorts =>
    have hres : o.reservations ≠ 0 := hsome
    rw [shortCloseOpen, if_neg hres, if_neg hres] at own_eq
    exact serve_answers h (own := ownShortClose) own_eq

/-! ### LOAD_ORDER -/

theorem OrderBook.freeSlot_eq_some_iff {b : OrderBook} {slot : Nat} :
    b.freeSlot = some slot ↔ lowestEmpty b slot := by
  rw [OrderBook.freeSlot, List.find?_range_eq_some]
  simp only [List.all_eq_true, bne_iff_ne, ne_eq, Config.orderSlots, List.mem_range, Bool.not_eq_eq_eq_not,
    Bool.not_true, List.all_eq_false, Decidable.not_not]
  exact and_left_comm

theorem OrderBook.freeSlot_eq_none_iff {b : OrderBook} :
    b.freeSlot = none ↔ ∀ k, k < 256 → ∃ o ∈ b.orders, o.slot = k := by
  simp [OrderBook.freeSlot, Config.orderSlots]

theorem budgetUsed_eq (v : Nat) : budgetUsed v = max 100 (min 30000 v) := by
  unfold budgetUsed
  split
  · omega
  · split <;> omega

theorem lineField_bad_eq_false_iff (l : LineField) : l.bad = false ↔
    l.primary ≤ 1023 ∧ (l.substitute = 0xFFFF ∨ l.substitute ≤ 1023) ∧
      1 ≤ l.quantity ∧ l.quantity ≤ 15 := by
  simp [LineField.bad, and_assoc]
  omega

/-- The field checks of R3 step 2, and the lines' ranges. -/
theorem orderFieldsBad_eq_false_iff (q : Request) :
    orderFieldsBad q.body (q.num 12 1) (lineFields q.body (q.num 12 1)) = false ↔
      orderFieldsGood q := by
  unfold orderFieldsBad Request.num
  simp only [Bool.or_eq_false_iff, decide_eq_false_iff_not, lineFields, List.any_eq_false,
    List.mem_map, List.mem_range, forall_exists_index, and_imp, forall_apply_eq_imp_iff₂,
    Bool.not_eq_true, lineField_bad_eq_false_iff, orderFieldsGood, Request.num,
    Nat.not_lt, beq_eq_false_iff_ne, and_assoc]
theorem loadedOrder_eq (q : Request) (slot : Nat) :
    loadedOrder q.body slot (lineFields q.body (q.num 12 1)) = orderLoaded q slot := by
  rw [loadedOrder, lineFields, budgetUsed_eq, List.map_map]
  rfl

theorem any_drops_eq_false_iff (q : Request) :
    (lineFields q.body (q.num 12 1)).any LineField.drops = false ↔
      (List.range (q.num 12 1)).all (fun i => !subDropped q i) = true := by
  rw [lineFields, List.any_map, ← Bool.not_eq_true', List.not_any_eq_all_not]
  rfl

/-- The drop mask has bit i for the line of index i, R4. -/
theorem dropMask_eq (q : Request) : dropMask (lineFields q.body (q.num 12 1)) =
    ((List.range (q.num 12 1)).map fun i => if subDropped q i then 2 ^ i else 0).sum := by
  rw [dropMask]
  congr 1
  refine List.ext_getElem (by simp [lineFields]) fun i hi hj => ?_
  simp [lineFields, subDropped, LineField.drops, Request.num]

theorem done_of_bad (t : State) (a b : Nat) (c : Bool) (body : List Byte) :
    Answer.done t (a != b || c) body =
      { state := t, result := if a = b ∧ c = false then .ok else .adjusted, body := body } := by
  rw [Answer.done]
  congr 1
  by_cases h : a = b ∧ c = false
  · rw [if_pos h, h.1, h.2]
    simp
  · rw [if_neg h, if_pos]
    rw [Bool.or_eq_true, bne_iff_ne]
    refine Classical.byContradiction fun hno => ?_
    simp only [not_or, Classical.not_not, Bool.not_eq_true] at hno
    exact h hno

section
variable {q : Request} {s : State}

theorem ownLoadOrder_eq (hfits : q.loadLengthFits = true) : ownLoadOrder q.body s =
    if orderFieldsBad q.body (q.num 12 1) (lineFields q.body (q.num 12 1)) then .refuse s .badField
    else if (s.book.byNumber (q.num 0 4)).isSome then .refuse s .duplicate
    else
      match s.book.freeSlot with
      | none => .refuse s .noSpace
      | some slot =>
        if s.book.freeLines < q.num 12 1 then .refuse s .noSpace
        else loadInto slot q.body (lineFields q.body (q.num 12 1)) s := by
  have hlength : 13 ≤ q.body.length ∧ q.body.length = 13 + 5 * fieldAt q.body 12 1 :=
    of_decide_eq_true hfits
  exact if_neg (by omega)

theorem ownLoadOrder_of_new (hfits : q.loadLengthFits = true) (hgood : orderFieldsGood q)
    (hnew : ∀ o ∈ s.book.orders, o.number ≠ q.num 0 4) : ownLoadOrder q.body s =
      match s.book.freeSlot with
      | none => .refuse s .noSpace
      | some slot =>
        if s.book.freeLines < q.num 12 1 then .refuse s .noSpace
        else loadInto slot q.body (lineFields q.body (q.num 12 1)) s := by
  have hnumber : (s.book.byNumber (q.num 0 4)).isSome = false := by
    simpa [OrderBook.byNumber] using hnew
  rw [ownLoadOrder_eq hfits, (orderFieldsBad_eq_false_iff q).mpr hgood, hnumber]
  rfl

end

/-- What an accepted load leaves: the order in its slot, and with the release-now flag QUEUED and the binder
run. -/
theorem loadInto_eq (q : Request) (slot : Nat) (s : State) :
    loadInto slot q.body (lineFields q.body (q.num 12 1)) s =
      { state := enterOrder (q.num 5 1 % 2 == 1) (orderLoaded q slot) s
        result :=
          if (orderLoaded q slot).budget = q.num 10 2 ∧
              (List.range (q.num 12 1)).all (fun i => !subDropped q i) = true then .ok else .adjusted
        body :=
          toBytes 1 slot ++
            toBytes 1 ((enterOrder (q.num 5 1 % 2 == 1) (orderLoaded q slot) s).book.stateCodeAt slot) ++
            toBytes 2 (orderLoaded q slot).budget ++
            toBytes 2 ((List.range (q.num 12 1)).map fun i =>
              if subDropped q i then 2 ^ i else 0).sum ++
            toBytes 2 (enterOrder (q.num 5 1 % 2 == 1) (orderLoaded q slot) s).book.freeLines } := by
  have hflag : releaseNow q.body = (q.num 5 1 % 2 == 1) := lowBit_iff q.body 5
  rw [loadInto, loadedOrder_eq, hflag, dropMask_eq, done_of_bad]
  simp only [any_drops_eq_false_iff]
  rfl

/-- The book once the order has entered its slot, R2 and R5. -/
theorem enterOrder_orderLoaded (now : Bool) (q : Request) (slot : Nat) (s : State) :
    enterOrder now (orderLoaded q slot) s =
      let b : OrderBook :=
        { s.book with
          orders := s.book.orders.takeWhile (fun x => x.slot < slot) ++ orderLoaded q slot ::
            s.book.orders.dropWhile (fun x => x.slot < slot)
          freeLines := s.book.freeLines - q.num 12 1 }
      if now then runBinder { s with book := b.enqueue (orderLoaded q slot) } else { s with book := b } := by
  have hlength : (orderLoaded q slot).lines.length = q.num 12 1 := by simp [orderLoaded]
  have henter : s.book.enter (orderLoaded q slot) =
      { s.book with
        orders := s.book.orders.takeWhile (fun x => x.slot < slot) ++ orderLoaded q slot ::
          s.book.orders.dropWhile (fun x => x.slot < slot)
        freeLines := s.book.freeLines - q.num 12 1 } := by
    rw [OrderBook.enter, hlength]
    rfl
  simp only [enterOrder, State.onBook, henter]

/-- Settles O24: the checks of R3 in their sequence, and the order as `loadInto` enters it. -/
theorem loadOrderIsCheckedAndEntered : Obligations.LoadOrderIsCheckedAndEntered := by
  intro q s h hfits
  refine ⟨fun hbad => ?bad, fun hgood hold => ?duplicate, fun hgood hnew hfull => ?full,
    fun slot hgood hnew hslot hpool => ?entered⟩
  case bad =>
    refine serve_refuses h (own := ownLoadOrder) ((ownLoadOrder_eq hfits).trans (if_pos ?_))
    exact Bool.not_eq_false _ ▸ fun hb => hbad ((orderFieldsBad_eq_false_iff q).mp hb)
  case duplicate =>
    have hheld : (s.book.byNumber (q.num 0 4)).isSome = true := by
      simpa [OrderBook.byNumber] using hold
    refine serve_refuses h (own := ownLoadOrder) ((ownLoadOrder_eq hfits).trans ?_)
    rw [(orderFieldsBad_eq_false_iff q).mpr hgood, hheld]
    rfl
  case full =>
    refine serve_refuses h (own := ownLoadOrder) ((ownLoadOrder_of_new hfits hgood hnew).trans ?_)
    rcases hfree : s.book.freeSlot with _ | slot
    · rfl
    · rcases hfull with hslots | hpool
      · rw [OrderBook.freeSlot_eq_none_iff.mpr hslots] at hfree
        exact absurd hfree (Option.some_ne_none slot).symm
      · exact if_pos hpool
  case entered =>
    refine serve_answers h (own := ownLoadOrder) ((ownLoadOrder_of_new hfits hgood hnew).trans ?_)
    rw [OrderBook.freeSlot_eq_some_iff.mpr hslot]
    refine (if_neg (Nat.not_lt_of_le hpool)).trans ((loadInto_eq q slot s).trans ?_)
    rw [enterOrder_orderLoaded]
    by_cases hnow : q.num 5 1 % 2 = 1
    · rw [if_pos hnow, beq_iff_eq.mpr hnow]
      rfl
    · rw [if_neg hnow, beq_eq_false_iff_ne.mpr hnow]
      rfl

end Sys2Proof.Machine

end

section
/-! PROOFS. The lights of the put wall, the marks after an event and the LIGHT frame sent next (R116, R117, R123,
R124). -/

namespace Sys2Proof.Machine

/-! ### The light of a position -/

section
variable {n : Lane} {p : Nat} {s : State}

theorem light_of_head (h : s.headTarget n = some p) : light s n p = .put := if_pos h

theorem light_of_return (h : s.headTarget n ≠ some p) (hp : p = 0) : light s n p = .off :=
  (if_neg h).trans (if_pos hp)

theorem light_of_bound (h : s.headTarget n ≠ some p) (hp : p ≠ 0) {o : Order}
    (ho : s.book.boundAt n p = some o) : light s n p =
      match o.state with
      | .complete => .close
      | .cancelled => .clear
      | _ => .off := by
  rw [light, if_neg h, if_neg hp, ho]
  cases hs : o.state <;> simp [hs]

theorem light_of_free (h : s.headTarget n ≠ some p) (ho : s.book.boundAt n p = none) :
    light s n p = .off := by
  rw [light, if_neg h, ho]
  split <;> rfl

/-- A position shows PUT exactly where it is the target of its lane's head. -/
theorem light_eq_put_iff : light s n p = .put ↔ s.headTarget n = some p := by
  refine ⟨fun hput => ?_, light_of_head⟩
  refine Classical.byContradiction fun h => ?_
  rw [light, if_neg h] at hput
  split at hput
  · exact absurd hput (by decide)
  · split at hput <;> exact absurd hput (by decide)

end

/-! ### The marks -/

theorem mem_panelIndexes {i : Nat} : i ∈ panelIndexes ↔ i < 128 := List.mem_range

theorem mem_lightsChanged {before s : State} {i : Nat} :
    i ∈ lightsChanged before s ↔ i < 128 ∧ lightAt s i ≠ lightAt before i := by
  rw [lightsChanged, List.mem_filter, mem_panelIndexes, bne_iff_ne]

theorem lightsChanged_eq_nil_iff {before s : State} :
    lightsChanged before s = [] ↔ ∀ i, i < 128 → lightAt s i = lightAt before i := by
  rw [List.eq_nil_iff_forall_not_mem]
  simp only [mem_lightsChanged, not_and, Classical.not_not]

theorem mem_mark {w : PutWall} {l : List Nat} {i : Nat} :
    i ∈ (w.mark l).marks ↔ i < 128 ∧ (i ∈ w.marks ∨ i ∈ l) := by
  simp [PutWall.mark, mem_panelIndexes]

theorem relight_of_same {before s : State} (h : ∀ i, i < 128 → lightAt s i = lightAt before i) :
    relight before s = s := by
  rw [relight, lightsChanged_eq_nil_iff.mpr h]

theorem relight_of_changed {before s : State} (h : ∃ i, i < 128 ∧ lightAt s i ≠ lightAt before i) :
    relight before s = beginLight (s.onWall fun w => w.mark (lightsChanged before s)) := by
  unfold relight
  split
  · obtain ⟨i, hi, hne⟩ := h
    exact absurd (lightsChanged_eq_nil_iff.mp ‹_› i hi) hne
  · rfl

/-! ### The send -/

/-- The first marked position after the pointer, `k` places on. -/
theorem nextMarked_eq_some {w : PutWall} {k : Nat} (hk : k < 128)
    (hmark : (w.pointer + 1 + k) % 128 ∈ w.marks)
    (hfirst : ∀ j, j < k → (w.pointer + 1 + j) % 128 ∉ w.marks) :
    w.nextMarked = some ((w.pointer + 1 + k) % 128) := by
  have hfind : (List.range 128).find? (fun j => w.marks.contains ((w.pointer + 1 + j) % 128)) = some k :=
    List.find?_range_eq_some.mpr ⟨List.contains_iff_mem.mpr hmark, List.mem_range.mpr hk,
      fun j hj => by simpa using hfirst j hj⟩
  rw [PutWall.nextMarked, cyclicFrom, List.find?_map]
  exact congrArg (Option.map fun k => (w.pointer + 1 + k) % 128) hfind

theorem nextMarked_eq_none {w : PutWall} (h : ∀ i ∈ w.marks, 128 ≤ i) : w.nextMarked = none := by
  refine List.find?_eq_none.mpr fun i hi => ?_
  obtain ⟨k, -, rfl⟩ := List.mem_map.mp hi
  intro hmark
  exact absurd (h _ (List.contains_iff_mem.mp hmark)) (Nat.not_le_of_lt (Nat.mod_lt _ (by decide)))

/-- A begun send leaves the chute lists, and the receiver. -/
theorem beginLight_wall (s : State) : ∃ w : PutWall, beginLight s = { s with wall := w } ∧
    w.chutes = s.wall.chutes ∧ w.rx = s.wall.rx := by
  unfold beginLight
  split
  · exact ⟨_, rfl, rfl, rfl⟩
  · exact ⟨s.wall, rfl, rfl, rfl⟩

theorem relight_wall (before s : State) : ∃ w : PutWall, relight before s = { s with wall := w } ∧
    w.chutes = s.wall.chutes ∧ w.rx = s.wall.rx := by
  unfold relight
  split
  · exact ⟨s.wall, rfl, rfl, rfl⟩
  · exact beginLight_wall _

/-- After an event that finds the transmitter busy, the marks are those that stood and those of the lights
that changed, R117. -/
theorem relight_of_busy {before s : State} (htx : s.wall.tx ≠ none) :
    (relight before s).wall.pointer = s.wall.pointer ∧ (relight before s).wall.tx = s.wall.tx ∧
      ∀ i, i < 128 → (i ∈ (relight before s).wall.marks ↔
        i ∈ s.wall.marks ∨ lightAt s i ≠ lightAt before i) := by
  by_cases h : ∃ i, i < 128 ∧ lightAt s i ≠ lightAt before i
  · rw [relight_of_changed h, beginLight_of_busy (s := s.onWall fun w => w.mark _) htx]
    refine ⟨rfl, rfl, fun i hi => ?_⟩
    rw [onWall_wall, mem_mark, mem_lightsChanged]
    simp only [hi, true_and]
  · have hsame : ∀ i, i < 128 → lightAt s i = lightAt before i := fun i hi => by
      refine Classical.byContradiction fun hne => ?_
      exact h ⟨i, hi, hne⟩
    rw [relight_of_same hsame]
    exact ⟨rfl, rfl, fun i hi => by simp [hsame i hi]⟩

theorem lightSent_of_sending {s : State} (htx : s.wall.tx ≠ none) :
    lightSent s = beginLight (s.onWall fun w => { w with tx := none }) := by
  obtain ⟨f, hf⟩ := Option.ne_none_iff_exists'.mp htx
  rw [lightSent, hf]

theorem exec_lightFrameSent {s : State} (hrunning : s.inReset = false) :
    exec .lightFrameSent s = .next (lightSent s) :=
  congrArg Host.Outcome.next (unlessInReset_of_running hrunning lightSent)

/-- Settles O48: the derived light, the marks after an event with the send it may begin, and the next send. -/
theorem lightsAreDerivedMarkedAndSent : Obligations.LightsAreDerivedMarkedAndSent := by
  refine ⟨fun n p s => ⟨light_of_head, fun h => ⟨light_of_return h, fun o hp ho => ?bound,
      light_of_free h⟩, fun r hp hr => ?once⟩,
    fun before s => ⟨fun htx => (relight_of_busy htx).2.2, relight_of_same, ?begins,
      relight_wall before s⟩,
    fun s hrunning => ⟨fun htx => ?idle, fun htx hnone => ?last, fun k htx hk hmark hfirst => ?next⟩⟩
  case bound =>
    rw [light_of_bound h hp ho]
    refine ⟨fun hs => by rw [hs], fun hs => by rw [hs], fun hcomplete hcancelled => ?_⟩
    cases hs : o.state with
    | complete => exact absurd hs hcomplete
    | cancelled => exact absurd hs hcancelled
    | staged | queued | opened | shorting => rfl
  case once =>
    exact Option.some.inj ((light_eq_put_iff.mp hp).symm.trans (light_eq_put_iff.mp hr))
  case begins =>
    intro marked htx hchanged k hk hmark hfirst i
    have hi : i < 128 := Nat.mod_lt _ (by decide)
    have hmarked (j : Nat) (hj : j < 128) :
        j ∈ (s.wall.mark (lightsChanged before s)).marks ↔ marked j := by
      rw [mem_mark, mem_lightsChanged]
      simp only [hj, true_and, marked]
    have hnext : (s.onWall fun w => w.mark (lightsChanged before s)).wall.nextMarked = some i :=
      nextMarked_eq_some hk ((hmarked _ hi).mpr hmark) fun j hj hin =>
        hfirst j hj ((hmarked _ (Nat.mod_lt _ (by decide))).mp hin)
    refine ⟨(s.wall.mark (lightsChanged before s)).marks.filter fun j => j != i, fun j => ?_, ?_⟩
    · rw [List.mem_filter, bne_iff_ne]
      constructor
      · rintro ⟨hin, hne⟩
        have hj := (mem_mark.mp hin).1
        exact ⟨hj, hne, (hmarked j hj).mp hin⟩
      · rintro ⟨hj, hne, hm⟩
        exact ⟨(hmarked j hj).mpr hm, hne⟩
    · rw [relight_of_changed hchanged, beginLight_of_next (s := s.onWall fun w => w.mark _) htx hnext]
      rfl
  case idle =>
    rw [exec_lightFrameSent hrunning, lightSent, htx]
  case last =>
    rw [exec_lightFrameSent hrunning, lightSent_of_sending htx,
      beginLight_of_no_mark (s := s.onWall fun w => { w with tx := none }) (nextMarked_eq_none hnone)]
    rfl
  case next =>
    intro i
    rw [exec_lightFrameSent hrunning, lightSent_of_sending htx,
      beginLight_of_next (s := s.onWall fun w => { w with tx := none }) rfl
        (nextMarked_eq_some hk hmark hfirst)]
    rfl

end Sys2Proof.Machine

end

section
/-! PROOFS. A run of releases that gives up every claim on some orders (R13, R15, R16): what it leaves of the book, of
the counters and of the flags. -/

namespace Sys2Proof.Machine

/-! ### Claims named with their slots -/

/-- The claims of a list on the order in a slot. -/
def claimsOn (i : Nat) (l : List (Nat × Claim)) : List Claim :=
  l.filterMap fun p => if p.1 = i then some p.2 else none

/-- The release of a claim. -/
def releaseClaim (s : State) (p : Nat × Claim) : State :=
  release p.1 p.2.line p.2.grams p.2.layer s

/-- The claim of a PLACE entry, with its slot. -/
def Entry.slotClaim (e : Entry) : Option (Nat × Claim) :=
  match e.dest with
  | .place _ _ k line _ => some (k, e.claimOn line)
  | _ => none

/-- The claim of a PUT chute entry, with its slot. -/
def ChuteEntry.slotClaim (e : ChuteEntry) : Option (Nat × Claim) :=
  match e.kind with
  | .put _ k line => some (k, e.claimOn line)
  | _ => none

theorem claimsOn_cons_same (k : Nat) (c : Claim) (l : List (Nat × Claim)) :
    claimsOn k ((k, c) :: l) = c :: claimsOn k l := by simp [claimsOn]

theorem claimsOn_cons_of_ne {i k : Nat} (h : k ≠ i) (c : Claim) (l : List (Nat × Claim)) :
    claimsOn i ((k, c) :: l) = claimsOn i l := by simp [claimsOn, h]

theorem claimsOn_append (i : Nat) (l m : List (Nat × Claim)) :
    claimsOn i (l ++ m) = claimsOn i l ++ claimsOn i m := List.filterMap_append

theorem foldl_releaseEntry (l : List Entry) (s : State) :
    l.foldl (fun t e => releaseEntry e t) s = (l.filterMap Entry.slotClaim).foldl releaseClaim s := by
  induction l generalizing s with
  | nil => rfl
  | cons e l ih =>
    rw [List.foldl_cons, ih, List.filterMap_cons]
    rcases hdest : e.dest with ⟨n, position, k, line, kind⟩ | n | r | r <;>
      simp only [releaseEntry, Entry.slotClaim, hdest] <;> rfl

theorem foldl_releaseChute (l : List ChuteEntry) (s : State) :
    l.foldl (fun t e => releaseChute e t) s =
      (l.filterMap ChuteEntry.slotClaim).foldl releaseClaim s := by
  induction l generalizing s with
  | nil => rfl
  | cons e l ih =>
    rw [List.foldl_cons, ih, List.filterMap_cons]
    rcases hkind : e.kind with ⟨position, k, line⟩ | _ | _ <;>
      simp only [releaseChute, ChuteEntry.slotClaim, hkind] <;> rfl

theorem claimsOn_entries {l : List Entry} (h : ∀ e ∈ l, (e.isScheduled || e.isFired) = true) (i : Nat) :
    claimsOn i (l.filterMap Entry.slotClaim) = l.filterMap (Entry.claim i) := by
  rw [claimsOn, List.filterMap_filterMap]
  refine filterMap_congr_mem fun e he => ?_
  rcases hdest : e.dest with ⟨n, position, k, line, kind⟩ | n | r | r
  case place =>
    rw [claim_of_place hdest (h e he)]
    simp only [Entry.slotClaim, hdest, Option.bind_some]
    simp only [eq_comm]
  all_goals
    rw [claim_of_not_place (by rw [hdest]; rfl)]
    simp only [Entry.slotClaim, hdest, Option.bind_none]

theorem claimsOn_chutes (l : List ChuteEntry) (i : Nat) :
    claimsOn i (l.filterMap ChuteEntry.slotClaim) = l.filterMap (ChuteEntry.claim i) := by
  rw [claimsOn, List.filterMap_filterMap]
  refine filterMap_congr_mem fun e _ => ?_
  rcases hkind : e.kind with ⟨position, k, line⟩ | _ | _
  case put =>
    rw [chuteClaim_of_put hkind]
    simp only [ChuteEntry.slotClaim, hkind, Option.bind_some]
    simp only [eq_comm]
  all_goals
    rw [chuteClaim_of_not_put (by rw [hkind]; exact nofun)]
    simp only [ChuteEntry.slotClaim, hkind, Option.bind_none]

/-! ### An order whose claims are all given up -/

/-- The lines of an order but for their reserved counts. -/
abbrev Order.bareLines (o : Order) : List RecipeLine := o.lines.map fun l => { l with reserved := 0 }

/-- An order with no reservation left: a SHORTING one is COMPLETE and short (R16). -/
def Order.ended (o : Order) : Order :=
  { o with
    lines := o.bareLines
    reservedWeight := 0
    layerCounts := [0, 0, 0, 0]
    state := if o.state = .shorting then .complete else o.state
    short := o.state == .shorting || o.short }

theorem release_bareLines (o : Order) (line w l : Nat) : (o.release line w l).bareLines = o.bareLines := by
  refine List.ext_getElem? fun i => ?_
  simp only [Order.release, List.getElem?_map, List.getElem?_modify]
  rcases o.lines[i]? with _ | x
  · rfl
  · by_cases h : line = i <;> simp [h]

theorem Balanced.reserved_eq_zero {o : Order} (h : Balanced [] o) {l : RecipeLine} (hl : l ∈ o.lines) :
    l.reserved = 0 := by
  obtain ⟨i, hi⟩ := List.getElem?_of_mem hl
  have := h.byLine i
  rw [hi] at this
  exact this

theorem Balanced.bareLines_eq {o : Order} (h : Balanced [] o) : o.bareLines = o.lines := by
  refine (List.map_congr_left fun l hl => ?_).trans (List.map_id o.lines)
  rw [← h.reserved_eq_zero hl]
  rfl

theorem Balanced.layerCounts_eq {o : Order} (h : Balanced [] o) : o.layerCounts = [0, 0, 0, 0] := by
  refine List.ext_getElem (by simp [h.layers]) fun i hi hj => ?_
  have hzero := h.byLayer i
  rw [List.getD_eq_getElem?_getD, List.getElem?_eq_getElem hi] at hzero
  simp only [List.length_cons, List.length_nil] at hj
  have hzeros : ∀ j (hj : j < 4), [0, 0, 0, 0][j] = 0 := by decide
  exact hzero.trans (hzeros i (by omega)).symm

/-- The order after the release of a claim, `last` where it completes it. -/
def Order.relieve (c : Claim) (last : Bool) (o : Order) : Order :=
  { o.release c.line c.grams c.layer with
    state := if last then .complete else o.state
    short := last || o.short }

/-- An order relieved of its last claim is the order ended. -/
theorem relieve_eq_ended {c : Claim} {o : Order} (h : Balanced [c] o) :
    o.relieve c (o.state == .shorting) = o.ended := by
  have hnil : Balanced [] (o.release c.line c.grams c.layer) := h.release
  have hlines : (o.release c.line c.grams c.layer).lines = o.bareLines :=
    hnil.bareLines_eq.symm.trans (release_bareLines o _ _ _)
  have hweight : (o.release c.line c.grams c.layer).reservedWeight = 0 := hnil.byWeight
  rw [Order.relieve, Order.ended, hlines, hweight, hnil.layerCounts_eq]
  simp only [beq_iff_eq]
  rfl

/-- An order ended after a release is the order ended. -/
theorem ended_relieve (c : Claim) (o : Order) : (o.relieve c false).ended = o.ended := by
  have hlines : (o.relieve c false).bareLines = o.bareLines := release_bareLines o _ _ _
  rw [Order.ended, hlines]
  rfl

/-! ### One release -/

section
variable {s : State} {o : Order} {k : Nat} {c : Claim} {cs : List Claim}

theorem filled_release (h : Balanced (c :: cs) o) :
    (o.release c.line c.grams c.layer).filled = false := by
  obtain ⟨l, hl, hpos⟩ := h.line_of_mem List.mem_cons_self
  have hquantity := h.quantities l (List.mem_of_getElem? hl)
  refine Bool.eq_false_iff.mpr fun hfilled => ?_
  have hplaced := Order.filled_iff.mp hfilled { l with reserved := l.reserved - 1 }
    (List.mem_of_getElem? (i := c.line) (by simp [Order.release, hl]))
  simp only at hplaced
  omega

theorem reservations_release (h : Balanced (c :: cs) o) :
    (o.release c.line c.grams c.layer).reservations = 0 ↔ cs = [] := by
  have hrest : Balanced cs (o.release c.line c.grams c.layer) := h.release
  constructor
  · intro hzero
    exact hrest.nil_of_reservations fun l hl => reserved_of_reservations hzero l hl
  · rintro rfl
    exact List.sum_eq_zero_iff_forall_eq_nat.mpr fun x hx => by
      obtain ⟨l, hl, rfl⟩ := List.mem_map.mp hx
      exact hrest.reserved_eq_zero hl

/-- What a release does: the order is relieved, and a SHORTING order with no claim left completes (R16). -/
theorem releaseClaim_eq (hslots : s.book.Slotted) (ho : o ∈ s.book.orders) (hslot : o.slot = k)
    (h : Balanced (c :: cs) o) : releaseClaim s (k, c) =
      if o.state = .shorting ∧ cs = [] then
        enterComplete (o.release c.line c.grams c.layer) true
          (s.onBook fun b => b.change k fun x => x.release c.line c.grams c.layer)
      else s.onBook fun b => b.change k fun x => x.release c.line c.grams c.layer := by
  have hat : (s.onBook fun b => b.change k fun x => x.release c.line c.grams c.layer).book.atSlot k =
      some (o.release c.line c.grams c.layer) := by
    rw [onBook_book, OrderBook.atSlot_map (b := s.book) (fun x _ => ?_) rfl,
      (OrderBook.atSlot_eq_some hslots).mpr ⟨ho, hslot⟩]
    · simp [hslot]
    · split <;> rfl
  rw [releaseClaim, release]
  cases hstate : o.state with
  | opened =>
    rw [completeCheck_of_opened hat hstate, filled_release h]
    simp
  | shorting =>
    rw [completeCheck_of_shorting hat hstate]
    simp only [reservations_release h, true_and]
  | staged | queued | complete | cancelled =>
    rw [completeCheck_of_other hat (by simp [Order.release, hstate]) (by simp [Order.release, hstate])]
    simp

theorem releaseClaim_book (hslots : s.book.Slotted) (ho : o ∈ s.book.orders) (hslot : o.slot = k)
    (h : Balanced (c :: cs) o) : (releaseClaim s (k, c)).book =
      s.book.change k (Order.relieve c (o.state == .shorting && cs == [])) := by
  rw [releaseClaim_eq hslots ho hslot h]
  by_cases hlast : o.state = .shorting ∧ cs = []
  · have hname : (o.release c.line c.grams c.layer).slot = k := hslot
    rw [if_pos hlast, enterComplete, count_book, report_book, onBook_book, onBook_book,
      OrderBook.change, OrderBook.change, OrderBook.change, List.map_map, hname]
    refine congrArg (fun l => { s.book with orders := l }) (List.map_congr_left fun x _ => ?_)
    by_cases hx : x.slot = k
    · have hslot' : (x.release c.line c.grams c.layer).slot = k := hx
      simp only [Function.comp_apply, if_pos hx, if_pos hslot', hlast.1, hlast.2]
      rfl
    · simp only [Function.comp_apply, if_neg hx]
  · have hno : (o.state == .shorting && cs == []) = false := by
      simpa using hlast
    rw [if_neg hlast, hno]
    rfl

theorem releaseClaim_status (hslots : s.book.Slotted) (ho : o ∈ s.book.orders) (hslot : o.slot = k)
    (h : Balanced (c :: cs) o) : (releaseClaim s (k, c)).status =
      if o.state = .shorting ∧ cs = [] then
        { flags := s.status.flags ||| 1#32 <<< 18
          counters := s.status.counters.modify 17 bump }
      else s.status := by
  rw [releaseClaim_eq hslots ho hslot h]
  split
  · rw [enterComplete, report_eq_update]
    rfl
  · rfl

theorem releaseClaim_link (hslots : s.book.Slotted) (ho : o ∈ s.book.orders) (hslot : o.slot = k)
    (h : Balanced (c :: cs) o) (hlast : ¬ (o.state = .shorting ∧ cs = [])) :
    (releaseClaim s (k, c)).link = s.link := by
  rw [releaseClaim_eq hslots ho hslot h, if_neg hlast]
  rfl

end

/-! ### The run -/

/-- Whether the releases of a list complete an order: a SHORTING one that has claims among them (R16). -/
def closesBy (l : List (Nat × Claim)) (o : Order) : Bool :=
  o.state == .shorting && claimsOn o.slot l != []

/-- What a run of releases that gives up every claim on the orders it names leaves. -/
structure Relieved (l : List (Nat × Claim)) (s t : State) : Prop where
  book : t.book =
    { s.book with
      orders := s.book.orders.map fun o => if claimsOn o.slot l = [] then o else o.ended }
  counters : t.status.counters = (s.book.orders.filter (closesBy l)).foldl
    (fun cs _ => cs.modify 17 bump) s.status.counters
  flags : t.status.flags =
    s.status.flags ||| if s.book.orders.any (closesBy l) then 1#32 <<< 18 else 0
  link : s.book.orders.any (closesBy l) = false → t.link = s.link

theorem closesBy_nil (o : Order) : closesBy [] o = false := by simp [closesBy, claimsOn]

theorem relieved_nil (s : State) : Relieved [] s s where
  book := by simp [claimsOn]
  counters := by
    rw [List.filter_eq_nil_iff.mpr fun o _ => by rw [closesBy_nil]; exact Bool.false_ne_true]
    rfl
  flags := by simp [closesBy_nil]
  link _ := rfl

/-- The counters after `n` counts of ORDERS_COMPLETED. -/
def completionsCounted : Nat → List Nat → List Nat
  | 0, cs => cs
  | n + 1, cs => completionsCounted n (cs.modify 17 bump)

theorem foldl_bump_eq {α : Type} (l : List α) (cs : List Nat) :
    l.foldl (fun cs _ => cs.modify 17 bump) cs = completionsCounted l.length cs := by
  induction l generalizing cs with
  | nil => rfl
  | cons x l ih => exact ih (cs.modify 17 bump)

/-- The orders of a book with the one in a slot named. -/
theorem orders_split {b : OrderBook} (hslots : b.Slotted) {o : Order} (ho : o ∈ b.orders) :
    ∃ l₁ l₂, b.orders = l₁ ++ o :: l₂ ∧ ∀ x, x ∈ l₁ ∨ x ∈ l₂ → x.slot ≠ o.slot := by
  obtain ⟨l₁, l₂, hsplit⟩ := List.append_of_mem ho
  refine ⟨l₁, l₂, hsplit, fun x hx => ?_⟩
  rw [OrderBook.Slotted, hsplit, List.pairwise_append, List.pairwise_cons] at hslots
  obtain ⟨-, ⟨hafter, -⟩, hbefore⟩ := hslots
  rcases hx with hx | hx
  · exact Nat.ne_of_lt (hbefore x hx o List.mem_cons_self)
  · exact (Nat.ne_of_lt (hafter x hx)).symm

section
variable {b : OrderBook} {o : Order} {c : Claim} {l : List (Nat × Claim)}

theorem closesBy_cons_same : closesBy ((o.slot, c) :: l) o = (o.state == .shorting) := by
  simp [closesBy, claimsOn_cons_same]

theorem closesBy_cons_of_ne {k : Nat} (h : o.slot ≠ k) : closesBy ((k, c) :: l) o = closesBy l o := by
  rw [closesBy, claimsOn_cons_of_ne (Ne.symm h), closesBy]

theorem closesBy_relieve {last : Bool}
    (hlast : last = (o.state == .shorting && claimsOn o.slot l == [])) :
    closesBy l (o.relieve c last) = (o.state == .shorting && claimsOn o.slot l != []) := by
  subst hlast
  have hslot : (o.relieve c (o.state == .shorting && claimsOn o.slot l == [])).slot = o.slot := rfl
  rw [closesBy, hslot]
  by_cases hnil : claimsOn o.slot l = []
  · simp [hnil]
  · have hne : (claimsOn o.slot l == []) = false := beq_eq_false_iff_ne.mpr hnil
    rw [hne, Bool.and_false]
    rfl

/-- The orders that close by a run are those that close by its first release and by the rest. -/
theorem countP_closesBy (hslots : b.Slotted) (ho : o ∈ b.orders) :
    b.orders.countP (closesBy ((o.slot, c) :: l)) =
      (b.change o.slot (Order.relieve c (o.state == .shorting && claimsOn o.slot l == []))).orders.countP
        (closesBy l) + if o.state = .shorting ∧ claimsOn o.slot l = [] then 1 else 0 := by
  obtain ⟨l₁, l₂, hsplit, hne⟩ := orders_split hslots ho
  have hother (m : List Order) (hm : ∀ x ∈ m, x.slot ≠ o.slot) :
      (m.map fun x => if x.slot = o.slot then
        x.relieve c (o.state == .shorting && claimsOn o.slot l == []) else x).countP (closesBy l) =
      m.countP (closesBy ((o.slot, c) :: l)) := by
    rw [List.countP_map]
    refine List.countP_congr fun x hx => ?_
    rw [Function.comp_apply, if_neg (hm x hx), closesBy_cons_of_ne (hm x hx)]
  rw [OrderBook.change, hsplit, List.map_append, List.map_cons, List.countP_append, List.countP_append,
    List.countP_cons, List.countP_cons, hother l₁ fun x hx => hne x (.inl hx),
    hother l₂ fun x hx => hne x (.inr hx), if_pos rfl, closesBy_cons_same, closesBy_relieve rfl]
  by_cases hs : o.state = .shorting <;> by_cases hnil : claimsOn o.slot l = [] <;> simp [hs, hnil] <;>
    omega

end

theorem relieved_cons {s t : State} {o : Order} {c : Claim} {l : List (Nat × Claim)}
    (hslots : s.book.Slotted) (ho : o ∈ s.book.orders)
    (h : Balanced (claimsOn o.slot ((o.slot, c) :: l)) o)
    (hrest : Relieved l (releaseClaim s (o.slot, c)) t) : Relieved ((o.slot, c) :: l) s t := by
  rw [claimsOn_cons_same] at h
  have hbook := releaseClaim_book hslots ho rfl h
  have hstatus := releaseClaim_status hslots ho rfl h
  have hcount := countP_closesBy (c := c) (l := l) hslots ho
  have hany : s.book.orders.any (closesBy ((o.slot, c) :: l)) =
      ((releaseClaim s (o.slot, c)).book.orders.any (closesBy l) ||
        decide (o.state = .shorting ∧ claimsOn o.slot l = [])) := by
    rw [hbook, Bool.eq_iff_iff, Bool.or_eq_true, List.any_eq_true, List.any_eq_true,
      ← List.countP_pos_iff, ← List.countP_pos_iff, hcount, decide_eq_true_iff]
    by_cases hlast : o.state = .shorting ∧ claimsOn o.slot l = []
    · simp [hlast]
    · simp only [hlast, if_false, Nat.add_zero, or_false]
  constructor
  case book =>
    rw [hrest.book, hbook, OrderBook.change, List.map_map]
    refine congrArg (fun l => { s.book with orders := l }) (List.map_congr_left fun x hx => ?_)
    rw [Function.comp_apply]
    by_cases hslot : x.slot = o.slot
    · obtain rfl := OrderBook.eq_of_slot_eq hslots hx ho hslot
      have hkept : (x.relieve c (x.state == .shorting && claimsOn x.slot l == [])).slot = x.slot := rfl
      rw [if_pos rfl, hkept, claimsOn_cons_same, if_neg (List.cons_ne_nil _ _)]
      by_cases hnil : claimsOn x.slot l = []
      · rw [if_pos hnil, hnil]
        simp only [beq_self_eq_true, Bool.and_true]
        exact relieve_eq_ended (hnil ▸ h)
      · have hne : (claimsOn x.slot l == []) = false := beq_eq_false_iff_ne.mpr hnil
        rw [if_neg hnil, hne, Bool.and_false]
        exact ended_relieve c x
    · rw [if_neg hslot, claimsOn_cons_of_ne (Ne.symm hslot)]
  case counters =>
    rw [hrest.counters, foldl_bump_eq, foldl_bump_eq, ← List.countP_eq_length_filter,
      ← List.countP_eq_length_filter, hcount, hbook, hstatus]
    split
    · rfl
    · rfl
  case flags =>
    rw [hrest.flags, hany, hstatus]
    by_cases hlast : o.state = .shorting ∧ claimsOn o.slot l = []
    · rw [if_pos hlast, decide_eq_true hlast, Bool.or_true, if_pos rfl]
      split
      · rw [BitVec.or_assoc, BitVec.or_self]
      · exact BitVec.or_zero
    · rw [if_neg hlast, decide_eq_false hlast, Bool.or_false]
  case link =>
    intro hnone
    rw [hany, Bool.or_eq_false_iff, decide_eq_false_iff_not] at hnone
    rw [hrest.link hnone.1, releaseClaim_link hslots ho rfl h hnone.2]

/-- A run of releases relieves every order it names. -/
theorem relieved_foldl {l : List (Nat × Claim)} {s : State} (hslots : s.book.Slotted)
    (hknown : ∀ p ∈ l, ∃ o ∈ s.book.orders, o.slot = p.1)
    (h : ∀ o ∈ s.book.orders, claimsOn o.slot l ≠ [] → Balanced (claimsOn o.slot l) o) :
    Relieved l s (l.foldl releaseClaim s) := by
  induction l generalizing s with
  | nil => exact relieved_nil s
  | cons p l ih =>
    obtain ⟨o, ho, hslot⟩ := hknown p List.mem_cons_self
    obtain ⟨k, c⟩ := p
    obtain rfl : o.slot = k := hslot
    have hclaims := claimsOn_cons_same o.slot c l
    have hbalanced := h o ho (by rw [hclaims]; exact List.cons_ne_nil _ _)
    refine relieved_cons hslots ho hbalanced (ih ?_ ?_ ?_)
    all_goals rw [hclaims] at hbalanced
    all_goals have hbook := releaseClaim_book hslots ho rfl hbalanced
    · exact OrderBook.slotted_map hslots (fun x _ => by split <;> rfl)
        (congrArg OrderBook.orders hbook)
    · intro p hp
      obtain ⟨x, hx, hxslot⟩ := hknown p (List.mem_cons_of_mem _ hp)
      rw [hbook]
      refine ⟨_, OrderBook.mem_change.mpr ⟨x, hx, rfl⟩, ?_⟩
      rw [← hxslot]
      split <;> rfl
    · intro y hy hne
      rw [hbook] at hy
      obtain ⟨x, hx, rfl⟩ := OrderBook.mem_change.mp hy
      by_cases hslot : x.slot = o.slot
      · obtain rfl := OrderBook.eq_of_slot_eq hslots hx ho hslot
        rw [if_pos rfl]
        exact Balanced.of_eq (o := x.release c.line c.grams c.layer) hbalanced.release rfl rfl rfl rfl rfl
      · rw [if_neg hslot] at hne ⊢
        have hsame := claimsOn_cons_of_ne (Ne.symm hslot) c l
        rw [← hsame] at hne ⊢
        exact h x hx hne

end Sys2Proof.Machine

end

section
/-! PROOFS. The cancel of an order in flight (R18, R19, R115) and LINE_CLEAR (R156, R157): both give up every claim on
the orders they reach. -/

namespace Sys2Proof.Machine

/-! ### Lists of claims -/

theorem claimsOn_eq_nil {l : List (Nat × Claim)} {k i : Nat} (hl : ∀ p ∈ l, p.1 = k) (hi : i ≠ k) :
    claimsOn i l = [] := by
  refine List.filterMap_eq_nil_iff.mpr fun p hp => if_neg ?_
  rw [hl p hp]
  exact Ne.symm hi

theorem mem_of_claimsOn {l : List (Nat × Claim)} {p : Nat × Claim} (hp : p ∈ l) :
    claimsOn p.1 l ≠ [] :=
  List.ne_nil_of_mem (List.mem_filterMap.mpr ⟨p, hp, if_pos rfl⟩)

theorem Order.ended_of_balanced {o : Order} (h : Balanced [] o) (hstate : o.state ≠ .shorting) :
    o.ended = o := by
  have hweight : o.reservedWeight = 0 := h.byWeight
  have hno : (o.state == .shorting) = false := beq_eq_false_iff_ne.mpr hstate
  rw [Order.ended, h.bareLines_eq, ← h.layerCounts_eq, ← hweight, hno, if_neg hstate]
  rfl

/-! ### A cancel in flight -/

/-- The claims that a cancel gives up, R19 and R115. -/
def cancelledClaims (o : Order) (s : State) : List (Nat × Claim) :=
  (s.divert.queue.filter fun e => e.isFor o.slot && e.holdsReservation).filterMap Entry.slotClaim ++
    (s.chuteEntries.filter (ChuteEntry.isFor o.slot)).filterMap ChuteEntry.slotClaim

theorem cancelInFlight_foldl (o : Order) (s : State) :
    cancelInFlight o s = (cancelledClaims o s).foldl releaseClaim (cancelledState o s) := by
  rw [cancelInFlight_eq, cancelledClaims, List.foldl_append, foldl_releaseEntry, foldl_releaseChute]

theorem cancelledClaims_slot (o : Order) (s : State) : ∀ p ∈ cancelledClaims o s, p.1 = o.slot := by
  intro p hp
  rcases List.mem_append.mp hp with hp | hp
  · obtain ⟨e, he, hclaim⟩ := List.mem_filterMap.mp hp
    have hfor := (List.mem_filter.mp he).2
    rcases hdest : e.dest with ⟨n, position, k, line, kind⟩ | n | r | r
    case place =>
      simp only [Entry.slotClaim, hdest, Option.some.injEq] at hclaim
      simp only [Entry.isFor, hdest, Bool.and_eq_true, beq_iff_eq] at hfor
      rw [← hclaim]
      exact hfor.1
    all_goals simp [Entry.isFor, hdest] at hfor
  · obtain ⟨e, he, hclaim⟩ := List.mem_filterMap.mp hp
    have hfor := (List.mem_filter.mp he).2
    rcases hkind : e.kind with ⟨position, k, line⟩ | _ | _
    case put =>
      simp only [ChuteEntry.slotClaim, hkind, Option.some.injEq] at hclaim
      simp only [ChuteEntry.isFor, hkind, beq_iff_eq] at hfor
      rw [← hclaim]
      exact hfor
    all_goals simp [ChuteEntry.isFor, hkind] at hfor

/-- They are all the claims on the order. -/
theorem cancelledClaims_perm (o : Order) (s : State) :
    (claimsOn o.slot (cancelledClaims o s)).Perm (claims s o.slot) := by
  have hperm := Accounts.cancelled_perm o s o.slot
  have hheld : ∀ e ∈ s.divert.queue.filter fun e => e.isFor o.slot && e.holdsReservation,
      (e.isScheduled || e.isFired) = true := fun e he => by
    have := (List.mem_filter.mp he).2
    simp only [Entry.holdsReservation, Bool.and_eq_true] at this
    exact this.2.2
  rw [Accounts.claims_cancelledState, List.append_nil] at hperm
  rw [cancelledClaims, claimsOn_append, claimsOn_entries hheld, claimsOn_chutes]
  exact hperm

/-- The order that a cancel leaves, R19. -/
abbrev Order.cancelled (o : Order) : Order := { o with state := .cancelled }

theorem cancelled_balanced {s : State} {o : Order} (haccounts : AccountsLaw s)
    (ho : o ∈ s.book.orders) :
    Balanced (claimsOn o.slot (cancelledClaims o s)) o.cancelled :=
  Balanced.of_eq (o := o) (((accountsLaw_iff.mp haccounts).balanced o ho).perm
    (cancelledClaims_perm o s)) rfl rfl rfl rfl rfl

theorem cancelled_closes_none (s : State) (o : Order) :
    (cancelledState o s).book.orders.any (closesBy (cancelledClaims o s)) = false := by
  refine List.any_eq_false.mpr fun y hy => ?_
  obtain ⟨x, hx, rfl⟩ := OrderBook.mem_change.mp hy
  by_cases hslot : x.slot = o.slot
  · rw [if_pos hslot, closesBy]
    simp
  · rw [if_neg hslot, closesBy, claimsOn_eq_nil (cancelledClaims_slot o s) hslot]
    simp

section
variable {s : State} {o : Order} (hbook : BookLaw s) (haccounts : AccountsLaw s) (ho : o ∈ s.book.orders)
include hbook haccounts ho

theorem cancelled_relieved :
    Relieved (cancelledClaims o s) (cancelledState o s) (cancelInFlight o s) := by
  have hslots : (cancelledState o s).book.Slotted :=
    OrderBook.slotted_map (b := s.book) hbook.slots (fun x _ => by split <;> rfl) rfl
  rw [cancelInFlight_foldl]
  refine relieved_foldl hslots (fun p hp => ?_) (fun y hy hne => ?_)
  · refine ⟨o.cancelled, OrderBook.mem_change.mpr ⟨o, ho, if_pos rfl⟩, ?_⟩
    exact (cancelledClaims_slot o s p hp).symm
  · obtain ⟨x, hx, rfl⟩ := OrderBook.mem_change.mp hy
    by_cases hslot : x.slot = o.slot
    · obtain rfl := OrderBook.eq_of_slot_eq hbook.slots hx ho hslot
      rw [if_pos rfl]
      exact cancelled_balanced (o := x) haccounts hx
    · rw [if_neg hslot] at hne
      exact absurd (claimsOn_eq_nil (cancelledClaims_slot o s) hslot) hne

/-- What a cancel in flight leaves of the book, R19: the order CANCELLED with no reservation, and the rest as
it was. -/
theorem cancelInFlight_book : (cancelInFlight o s).book =
    { s.book with
      orders := s.book.orders.map fun x => if x.slot = o.slot then o.cancelled.ended else x } := by
  rw [(cancelled_relieved hbook haccounts ho).book]
  simp only [cancelledState, onWall_book, onDivert_book, onBook_book, OrderBook.change, List.map_map]
  refine congrArg (fun l => { s.book with orders := l }) (List.map_congr_left fun x hx => ?_)
  rw [Function.comp_apply]
  by_cases hslot : x.slot = o.slot
  · obtain rfl := OrderBook.eq_of_slot_eq hbook.slots hx ho hslot
    rw [if_pos rfl, if_pos rfl]
    split
    next hnil =>
      have hb := cancelled_balanced haccounts ho
      rw [hnil] at hb
      exact (Order.ended_of_balanced hb (by simp)).symm
    next => rfl
  · rw [if_neg hslot, if_neg hslot, claimsOn_eq_nil (cancelledClaims_slot o s) hslot, if_pos rfl]

/-- A cancel in flight changes the book, the entries and the chute lists, and completes no order. -/
theorem cancelInFlight_frame :
    cancelInFlight o s = { cancelledState o s with book := (cancelInFlight o s).book } := by
  have hrelieved := cancelled_relieved hbook haccounts ho
  have hnone := cancelled_closes_none s o
  have hstatus : (cancelInFlight o s).status = s.status := by
    have hflags := hrelieved.flags
    have hcounters := hrelieved.counters
    have hfilter : (cancelledState o s).book.orders.filter (closesBy (cancelledClaims o s)) = [] :=
      List.filter_eq_nil_iff.mpr fun x hx => by simpa using List.any_eq_false.mp hnone x hx
    rw [hnone, if_neg Bool.false_ne_true] at hflags
    rw [hfilter] at hcounters
    cases hs : (cancelInFlight o s).status
    rw [hs] at hflags hcounters
    rw [show s.status = (cancelledState o s).status from rfl]
    exact StatusUnit.mk.injEq .. ▸ ⟨hflags.trans BitVec.or_zero, hcounters⟩
  obtain ⟨b, l, u, heq⟩ := cancelInFlight_bookOnly o s
  have hlink : (cancelInFlight o s).link = s.link := hrelieved.link hnone
  rw [heq] at hstatus hlink ⊢
  obtain rfl : l = s.link := hlink
  obtain rfl : u = s.status := hstatus
  rfl

end

theorem chuteEntry_cancelFor_eq (slot : Nat) (e : ChuteEntry) : e.cancelFor slot =
    match e.kind with
    | .put _ k _ => if k = slot then { e with kind := .void } else e
    | _ => e := by
  unfold ChuteEntry.cancelFor ChuteEntry.isFor
  cases e.kind <;> simp

/-- The state that a cancel leaves, R18 and R19: but for the lights, only the book, the entries and the chute
lists differ. -/
theorem cancelled_state {s : State} {o : Order} (hbook : BookLaw s) (haccounts : AccountsLaw s)
    (ho : o ∈ s.book.orders) : ∃ w : PutWall, relight s (cancelInFlight o s) =
      { s with
        book :=
          { s.book with
            orders := s.book.orders.map fun x => if x.slot = o.slot then o.cancelled.ended else x }
        divert := { s.divert with queue := s.divert.queue.map (Entry.cancelFor o.slot) }
        wall := w } ∧
    w.chutes = s.wall.chutes.map (fun l => l.map (ChuteEntry.cancelFor o.slot)) ∧
    w.rx = s.wall.rx := by
  obtain ⟨w, hw, hchutes, hrx⟩ := relight_wall s (cancelInFlight o s)
  have hframe := cancelInFlight_frame hbook haccounts ho
  rw [cancelInFlight_book hbook haccounts ho] at hframe
  refine ⟨w, hw.trans ?_, hchutes.trans ?_, hrx.trans ?_⟩ <;> rw [hframe] <;> rfl

/-- Settles O26: every claim on the order is given up by the cancel, and the CANCELLED order completes by none
of the releases. -/
theorem cancelInFlightGivesUpItems : Obligations.CancelInFlightGivesUpItems := by
  intro q s o h hbook haccounts hlength hnumber hfound hlive
  have ho := OrderBook.byNumber_mem hfound
  obtain ⟨w, hw, hchutes, hrx⟩ := cancelled_state hbook haccounts ho
  have hown := (withOrder_found hlength hnumber hfound _).trans (cancelFound_of_bound hlive s)
  rw [withLights, hw] at hown
  have hslots : ∀ x ∈ s.book.orders, (if x.slot = o.slot then o.cancelled.ended else x).slot = x.slot := by
    intro x _
    split
    next heq => exact heq.symm
    next => rfl
  refine ⟨_, serve_answers h (own := ownCancelOrder) hown, ⟨o.cancelled.ended, ?order, rfl, rfl, rfl, rfl,
    rfl, rfl, rfl, rfl, rfl⟩, fun k hk => ?others, rfl, rfl, ?queue, fun n => ?chutes, ?claims, hrx, rfl,
    rfl, rfl, rfl, rfl, rfl, rfl, rfl, rfl, rfl, rfl, rfl, rfl⟩
  case order =>
    rw [OrderBook.atSlot_map hslots rfl, (OrderBook.atSlot_eq_some hbook.slots).mpr ⟨ho, rfl⟩]
    exact congrArg some (if_pos rfl)
  case others =>
    rw [OrderBook.atSlot_map hslots rfl]
    rcases hx : s.book.atSlot k with _ | x
    · rfl
    · have hslot := (OrderBook.atSlot_mem hx).2
      exact congrArg some (if_neg (by rw [hslot]; exact hk))
  case queue => rfl
  case chutes =>
    rw [count_wall]
    simp only [hchutes, PerLane.get_map]
    exact List.map_congr_left fun e _ => chuteEntry_cancelFor_eq o.slot e
  case claims =>
    refine (congrFun (claims_congr (s := cancelledState o s) ?_ ?_) o.slot).trans
      (Accounts.claims_cancelledState o s)
    · rfl
    · exact hchutes

/-! ### LINE_CLEAR -/

/-- The lights rest on the book and the chute lists alone, R116. -/
theorem lightAt_congr {s t : State} (hbook : t.book = s.book) (hchutes : t.wall.chutes = s.wall.chutes) :
    lightAt t = lightAt s := by
  funext i
  rw [lightAt, lightAt, light, light, State.headTarget, State.headTarget, hbook, hchutes]

theorem relight_wall_congr {before s t : State} (hbook : t.book = s.book) (hwall : t.wall = s.wall) :
    (relight before t).wall = (relight before s).wall := by
  have hlights : lightAt t = lightAt s := lightAt_congr hbook (by rw [hwall])
  have hchanged : lightsChanged before t = lightsChanged before s := by
    simp only [lightsChanged, hlights]
  unfold relight
  rw [hchanged]
  split
  · exact hwall
  · simp only [markAndSend, beginLight, onWall_wall, hwall]
    have hmarked (l : List Nat) : lightAt (t.onWall fun w => w.mark l) = lightAt t := lightAt_congr rfl rfl
    have hmarked' (l : List Nat) : lightAt (s.onWall fun w => w.mark l) = lightAt s := lightAt_congr rfl rfl
    simp only [hmarked, hmarked', hlights]
    split
    · simp only [onWall_wall, hwall]
    · simp only [onWall_wall, hwall]

/-- The test of a drain that holds, R152. -/
theorem drainTest_of_drained {s : State} (h : s.drained = true) : drainTest s =
    if s.pause.state = .draining then
      report { kind := .pauseGranted, detail := s.pause.grantDetail } (s.onPause fun c => c.move .held)
    else s := by
  unfold drainTest
  simp only [h, and_true]

/-- The claims that a LINE_CLEAR releases, R157. -/
def clearedClaims (s : State) : List (Nat × Claim) :=
  (s.divert.queue.filter Entry.holdsReservation).filterMap Entry.slotClaim ++
    s.chuteEntries.filterMap ChuteEntry.slotClaim

theorem clearLists_foldl (s : State) :
    clearLists s = (clearedClaims s).foldl releaseClaim (emptiedState s) := by
  rw [clearLists_eq, clearedClaims, List.foldl_append, foldl_releaseEntry, foldl_releaseChute]

/-- They are all the claims that stand. -/
theorem claimsOn_clearedClaims (s : State) (i : Nat) : claimsOn i (clearedClaims s) = claims s i := by
  have hheld : ∀ e ∈ s.divert.queue.filter Entry.holdsReservation,
      (e.isScheduled || e.isFired) = true := fun e he => by
    have := (List.mem_filter.mp he).2
    simp only [Entry.holdsReservation, Bool.and_eq_true] at this
    exact this.2
  rw [clearedClaims, claimsOn_append, claimsOn_entries hheld, claimsOn_chutes,
    filterMap_filter_eq fun e he => claim_of_not_holds he i]
  rfl

/-- The orders a LINE_CLEAR completes are those SHORTING with a reservation. -/
theorem closesBy_clearedClaims (s : State) (o : Order) :
    closesBy (clearedClaims s) o = (o.state == .shorting && claims s o.slot != []) := by
  rw [closesBy, claimsOn_clearedClaims]

section
variable {s : State} (hbook : BookLaw s) (haccounts : AccountsLaw s)
include hbook haccounts

theorem cleared_relieved : Relieved (clearedClaims s) (emptiedState s) (clearLists s) := by
  have hagrees := accountsLaw_iff.mp haccounts
  rw [clearLists_foldl]
  refine relieved_foldl hbook.slots (fun p hp => ?_) (fun o ho _ => ?_)
  · refine hagrees.known p.1 ?_
    rw [← claimsOn_clearedClaims]
    exact mem_of_claimsOn hp
  · rw [claimsOn_clearedClaims]
    exact hagrees.balanced o ho

theorem clearLists_book : (clearLists s).book =
    { s.book with
      orders := s.book.orders.map fun o =>
        { o with
          lines := o.lines.map fun l => { l with reserved := 0 }
          reservedWeight := 0
          layerCounts := [0, 0, 0, 0]
          state := if o.state == .shorting && claims s o.slot != [] then .complete else o.state
          short := (o.state == .shorting && claims s o.slot != []) || o.short } } := by
  rw [(cleared_relieved hbook haccounts).book]
  refine congrArg (fun l => { s.book with orders := l }) (List.map_congr_left fun o ho => ?_)
  rw [claimsOn_clearedClaims]
  have hbalanced := (accountsLaw_iff.mp haccounts).balanced o ho
  by_cases hnil : claims s o.slot = []
  · rw [hnil] at hbalanced
    have hweight : o.reservedWeight = 0 := hbalanced.byWeight
    have hlines : o.lines.map (fun l => { l with reserved := 0 }) = o.lines := hbalanced.bareLines_eq
    rw [if_pos hnil, hnil, hlines, ← hbalanced.layerCounts_eq, ← hweight]
    simp
  · have hne : (claims s o.slot != []) = true := bne_iff_ne.mpr hnil
    rw [if_neg hnil, Order.ended, hne]
    simp

end

/-- The state that an accepted LINE_CLEAR leaves, R157. -/
abbrev clearedState (s : State) : State := drainTest (relight s (clearLists s))

theorem lineClear_refused {s : State} (hstop : s.pause.stopAsserted = false) (hheld : s.pause.state ≠ .held) :
    lineClear s = .refuse s .wrongState := by
  rw [lineClear, if_neg]
  simp [hstop, hheld]

theorem lineClear_taken {s : State} (h : s.pause.stopAsserted = true ∨ s.pause.state = .held) :
    lineClear s = .ok (clearedState s)
      (toBytes 1 s.capture.list.length ++ toBytes 1 s.divert.queue.length ++
        toBytes 1 s.chuteEntries.length ++ toBytes 1 s.reservationsHeld ++
        toBytes 1 (clearedState s).pause.state.code) := if_pos h

/-- A cleared line has the book, the link and the status of its releases, and the lists of `emptiedState`. -/
theorem clearLists_frame (s : State) : ∃ b l u,
    clearLists s = { emptiedState s with book := b, link := l, status := u } := clearLists_bookOnly s

theorem relight_clearLists (s : State) : ∃ b l u w,
    relight s (clearLists s) = { emptiedState s with book := b, link := l, status := u, wall := w } ∧
      w.chutes = PerLane.all [] ∧ w.rx = s.wall.rx := by
  obtain ⟨b, l, u, heq⟩ := clearLists_frame s
  obtain ⟨w, hw, hchutes, hrx⟩ := relight_wall s (clearLists s)
  refine ⟨b, l, u, w, hw.trans ?_, hchutes.trans ?_, hrx.trans ?_⟩ <;> rw [heq] <;> rfl

/-- The drain condition holds of a cleared line: a DRAINING part is granted its pause. -/
theorem clearedState_eq (s : State) : clearedState s =
    if s.pause.state = .draining then
      report { kind := .pauseGranted, detail := s.pause.grantDetail }
        ((relight s (clearLists s)).onPause fun c => c.move .held)
    else relight s (clearLists s) := by
  obtain ⟨b, l, u, w, heq, -, -⟩ := relight_clearLists s
  have hpause : (relight s (clearLists s)).pause = s.pause := by rw [heq]; rfl
  have hdrained : (relight s (clearLists s)).drained = true := by rw [heq]; rfl
  rw [clearedState, drainTest_of_drained hdrained, hpause]

section
variable (s : State)

theorem clearedState_wall : (clearedState s).wall = (relight s (clearLists s)).wall := by
  rw [clearedState, drainTest_wall]

theorem clearedState_book : (clearedState s).book = (clearLists s).book := by
  rw [clearedState, drainTest_book, relight_book]

theorem clearedState_pause : (clearedState s).pause =
    if s.pause.state = .draining then
      { s.pause with state := .held, inductHold := true, pauseAck := true }
    else s.pause := by
  obtain ⟨b, l, u, w, heq, -, -⟩ := relight_clearLists s
  rw [clearedState_eq]
  split
  · rw [report_pause, onPause_pause, heq]
    rfl
  · rw [heq]
    rfl

theorem clearedState_status : (clearedState s).status.counters = (clearLists s).status.counters ∧
    (clearedState s).status.flags = (clearLists s).status.flags |||
      (if s.pause.state = .draining then 1#32 <<< 16 else 0) := by
  rw [clearedState_eq]
  split
  · rw [report_eq_update]
    rw [onPause_status, relight_status]
    exact ⟨rfl, rfl⟩
  · rw [relight_status]
    exact ⟨rfl, BitVec.or_zero.symm⟩

end

/-- Settles O52: LINE_CLEAR releases every claim there is, marks the lights that change, and tests the drain
condition on empty lists. -/
theorem lineClearEmptiesLists : Obligations.LineClearEmptiesLists := by
  intro q s h hbody
  have own_eq : ownLineClear q.body s = lineClear s := emptyBody_nil hbody _ s
  refine ⟨fun hstop hheld => ?refused, fun htaken => ?cleared⟩
  case refused =>
    exact serve_refuses h (own := ownLineClear) (own_eq.trans (lineClear_refused hstop hheld))
  case cleared =>
    intro emptied offBelt offWall t
    obtain ⟨b, l, u, w, heq, hchutes, hrx⟩ := relight_clearLists s
    have ht : t = clearedState s := rfl
    have hwall : t.wall = w := by rw [ht, clearedState_wall, heq]
    have hoff : (clearLists s).wall = emptied.wall := by
      obtain ⟨b, l, u, heq⟩ := clearLists_frame s
      rw [heq]
      rfl
    have hlights : lightAt t = lightAt (clearLists s) :=
      lightAt_congr (clearedState_book s) (by rw [hwall, hchutes, hoff])
    refine ⟨serve_answers h (own := ownLineClear) (own_eq.trans (lineClear_taken htaken)), ?_, ?_, fun n => ?chutes,
      ?rx, ?wall, fun htx => ?marks, clearedState_pause s, ?_, ?_, ?_, ?_, ?_, ?_, ?_, ?_, ?_,
      fun hbook haccounts => ?laws⟩
    case chutes => rw [hwall, hchutes, PerLane.get_all]
    case rx => rw [hwall, hrx]
    case wall =>
      rw [ht, clearedState_wall]
      exact relight_wall_congr (clearedState_book s).symm hoff
    case marks =>
      have hbusy := relight_of_busy (before := s) (s := clearLists s) (by rw [hoff]; exact htx)
      rw [ht, clearedState_wall, ← ht, hlights]
      rw [hoff] at hbusy
      exact hbusy
    case laws =>
      intro closes
      have hrelieved := cleared_relieved hbook haccounts
      have hcloses : closesBy (clearedClaims s) = closes := funext (closesBy_clearedClaims s)
      refine ⟨(clearedState_book s).trans (clearLists_book hbook haccounts), ?_, ?_⟩
      · rw [ht, (clearedState_status s).1, hrelieved.counters, hcloses]
        rfl
      · rw [ht, (clearedState_status s).2, hrelieved.flags, hcloses]
        rfl
    all_goals
      simp only [ht, clearedState, drainTest_pending, drainTest_inReset, drainTest_pins, drainTest_belt,
        drainTest_capture, drainTest_catalogue, drainTest_ranges, drainTest_recirc, drainTest_divert,
        drainTest_wave, drainTest_params, heq]
      rfl

end Sys2Proof.Machine

end

section
/-! PROOFS. The binder (R7, R8) and promotion (R9): a run is a run of bindings, each of which opens one queued order
and frees no position. -/

namespace Sys2Proof.Machine

/-! ### Bindings -/

section
variable {enabled : Lane → Bool} {classes : Lane → Mask}

/-- The order that a run of the binder on a book may make of one of its orders. -/
def Order.MayBind (enabled : Lane → Bool) (classes : Lane → Mask) (b : OrderBook) (o u : Order) : Prop :=
  u = o ∨ (o.state = .queued ∧ ∃ n p, enabled n = true ∧ 1 ≤ p ∧ p ≤ 15 ∧
    (classes n).getLsbD o.cls = true ∧ b.boundAt n p = none ∧
    u = { o with state := .opened, position := some (n, p) })

/-- What a run of bindings makes of a book. -/
structure Bindings (enabled : Lane → Bool) (classes : Lane → Mask) (b c : OrderBook) : Prop where
  freeLines : c.freeLines = b.freeLines
  queued : ∀ k ∈ c.queued, k ∈ b.queued
  orders : ∃ g : Order → Order, c.orders = b.orders.map g ∧
    ∀ o ∈ b.orders, o.MayBind enabled classes b (g o)

theorem Order.MayBind.slot {b : OrderBook} {o u : Order} (h : o.MayBind enabled classes b u) :
    u.slot = o.slot := by
  rcases h with rfl | ⟨-, n, p, -, -, -, -, -, rfl⟩ <;> rfl

theorem Order.MayBind.cls {b : OrderBook} {o u : Order} (h : o.MayBind enabled classes b u) :
    u.cls = o.cls := by
  rcases h with rfl | ⟨-, n, p, -, -, -, -, -, rfl⟩ <;> rfl

/-- An order not opened by the run is as it was. -/
theorem Order.MayBind.eq_of_not_opened {b : OrderBook} {o u : Order} (h : o.MayBind enabled classes b u)
    (hu : u.state ≠ .opened) : u = o := by
  rcases h with h | ⟨-, n, p, -, -, -, -, -, rfl⟩
  · exact h
  · exact absurd rfl hu

namespace Bindings
variable {b c d : OrderBook}

theorem refl (b : OrderBook) : Bindings enabled classes b b :=
  ⟨rfl, fun _ h => h, id, (List.map_id _).symm, fun _ _ => Or.inl rfl⟩

theorem atSlot (h : Bindings enabled classes b c) (k : Nat) :
    (∀ u ∈ c.atSlot k, ∃ o ∈ b.atSlot k, o.MayBind enabled classes b u) ∧
      (c.atSlot k).isSome = (b.atSlot k).isSome := by
  obtain ⟨g, hg, hmay⟩ := h.orders
  have heq := OrderBook.atSlot_map (fun o ho => (hmay o ho).slot) hg k
  rw [heq]
  refine ⟨fun u hu => ?_, Option.isSome_map⟩
  obtain ⟨o, ho, rfl⟩ := Option.map_eq_some_iff.mp hu
  exact ⟨o, ho, hmay o (OrderBook.atSlot_mem ho).1⟩

theorem mem (h : Bindings enabled classes b c) {u : Order} (hu : u ∈ c.orders) :
    ∃ o ∈ b.orders, o.MayBind enabled classes b u := by
  obtain ⟨g, hg, hmay⟩ := h.orders
  rw [hg] at hu
  obtain ⟨o, ho, rfl⟩ := List.mem_map.mp hu
  exact ⟨o, ho, hmay o ho⟩

/-- A bound order keeps its position, R8. -/
theorem bound_kept (h : Bindings enabled classes b c) (hb : b.Sound) {n : Lane} {p : Nat}
    (hfree : c.boundAt n p = none) : b.boundAt n p = none := by
  obtain ⟨g, hg, hmay⟩ := h.orders
  rw [OrderBook.boundAt_eq_none] at hfree ⊢
  intro o ho hposition
  refine hfree (g o) (by rw [hg]; exact List.mem_map_of_mem ho) ?_
  rcases hmay o ho with hsame | ⟨hqueued, -⟩
  · rw [hsame]
    exact hposition
  · rw [(hb.bound o ho).mpr (Or.inr hqueued)] at hposition
    exact absurd hposition (by simp)

theorem trans (h : Bindings enabled classes b c) (hb : b.Sound) (h' : Bindings enabled classes c d) :
    Bindings enabled classes b d := by
  refine ⟨h'.freeLines.trans h.freeLines, fun k hk => h.queued k (h'.queued k hk), ?_⟩
  obtain ⟨g, hg, hmay⟩ := h.orders
  obtain ⟨g', hg', hmay'⟩ := h'.orders
  refine ⟨g' ∘ g, by rw [hg', hg, List.map_map], fun o ho => ?_⟩
  have hgo : g o ∈ c.orders := by rw [hg]; exact List.mem_map_of_mem ho
  rcases hmay' (g o) hgo with hsame | ⟨hqueued, n, p, henabled, hlow, hhigh, hclass, hfree, heq⟩
  · rw [Function.comp_apply, hsame]
    exact hmay o ho
  · have hsame : g o = o := (hmay o ho).eq_of_not_opened (by rw [hqueued]; decide)
    rw [hsame] at hqueued hclass heq
    exact Or.inr ⟨hqueued, n, p, henabled, hlow, hhigh, hclass, h.bound_kept hb hfree,
      by rw [Function.comp_apply, hsame, heq]⟩

/-- One position bound to the first queued order that fits, R7. -/
theorem bind (hb : b.Sound) {n : Lane} {p k : Nat} (henabled : enabled n = true)
    (hp : 1 ≤ p ∧ p ≤ 15) (hfree : b.boundAt n p = none)
    (hk : b.firstOfClasses (classes n) = some k) : Bindings enabled classes b (b.bind k n p) := by
  obtain ⟨hqueued, o, ho, hclass⟩ := OrderBook.firstOfClasses_spec hk
  obtain ⟨x, hx, hxslot, hxstate⟩ := (hb.queuedAre k).mp hqueued
  obtain rfl : x = o := Option.some.inj (((OrderBook.atSlot_eq_some hb.slots).mpr ⟨hx, hxslot⟩).symm.trans ho)
  refine ⟨rfl, fun i hi => (List.mem_filter.mp hi).1, _, rfl, fun y hy => ?_⟩
  by_cases hslot : y.slot = k
  · obtain rfl := OrderBook.eq_of_slot_eq hb.slots hy hx (hslot.trans hxslot.symm)
    rw [if_pos hslot]
    exact Or.inr ⟨hxstate, n, p, henabled, hp.1, hp.2, hclass, hfree, rfl⟩
  · rw [if_neg hslot]
    exact Or.inl rfl

theorem step (hb : b.Sound) {n : Lane} {p : Nat} (hp : 1 ≤ p ∧ p ≤ 15) :
    Bindings enabled classes b (bindStep enabled classes b (n, p)) := by
  rcases OrderBook.bindStep_cases enabled classes b n p with heq | ⟨k, henabled, hfree, hk, heq⟩ <;> rw [heq]
  · exact refl b
  · exact bind hb henabled hp hfree hk

theorem run (hb : b.Sound) {l : List (Lane × Nat)} (hl : ∀ x ∈ l, x ∈ hamperPositions) :
    Bindings enabled classes b (l.foldl (bindStep enabled classes) b) := by
  induction l generalizing b with
  | nil => exact refl b
  | cons x l ih =>
    obtain ⟨n, p⟩ := x
    have hp := OrderBook.mem_hamperPositions.mp (hl _ List.mem_cons_self)
    have hone : Bindings enabled classes b (bindStep enabled classes b (n, p)) := step hb hp
    have hsound : (bindStep enabled classes b (n, p)).Sound :=
      hb.binder enabled classes (l := [(n, p)]) fun y hy => hl y (by simpa using Or.inl (by simpa using hy))
    exact hone.trans hb (ih hsound fun y hy => hl y (List.mem_cons_of_mem _ hy))

end Bindings

/-! ### No match is left -/

/-- No queued order is left that fits a free position of an enabled lane. -/
def Settled (enabled : Lane → Bool) (classes : Lane → Mask) (b : OrderBook) (n : Lane) (p : Nat) : Prop :=
  enabled n = true → b.boundAt n p = none →
    ∀ o ∈ b.orders, o.state = .queued → (classes n).getLsbD o.cls = false

theorem Settled.mono {b c : OrderBook} {n : Lane} {p : Nat} (h : Settled enabled classes b n p)
    (hb : b.Sound) (hbind : Bindings enabled classes b c) : Settled enabled classes c n p := by
  intro henabled hfree u hu hqueued
  obtain ⟨o, ho, hmay⟩ := hbind.mem hu
  obtain rfl := hmay.eq_of_not_opened (by rw [hqueued]; decide)
  exact h henabled (hbind.bound_kept hb hfree) u ho hqueued

theorem boundAt_bind {b : OrderBook} (hb : b.Sound) {n : Lane} {p k : Nat} (hk : k ∈ b.queued) :
    (b.bind k n p).boundAt n p ≠ none := by
  obtain ⟨o, ho, hslot, -⟩ := (hb.queuedAre k).mp hk
  rw [Ne, OrderBook.boundAt_eq_none]
  intro hfree
  exact hfree _ (OrderBook.mem_change.mpr ⟨o, ho, rfl⟩) (by rw [if_pos hslot])

theorem settled_step {b : OrderBook} (hb : b.Sound) (n : Lane) (p : Nat) :
    Settled enabled classes (bindStep enabled classes b (n, p)) n p := by
  intro henabled hfree o ho hqueued
  rcases hk : b.firstOfClasses (classes n) with _ | k
  · have hsame : bindStep enabled classes b (n, p) = b := by
      rcases OrderBook.bindStep_cases enabled classes b n p with heq | ⟨k, -, -, hk', -⟩
      · exact heq
      · rw [hk] at hk'
        exact absurd hk' (by simp)
    rw [hsame] at ho
    have hin : o.slot ∈ b.queued := (hb.queuedAre o.slot).mpr ⟨o, ho, rfl, hqueued⟩
    have hno := List.find?_eq_none.mp hk o.slot hin
    rw [(OrderBook.atSlot_eq_some hb.slots).mpr ⟨ho, rfl⟩] at hno
    simpa using hno
  · exfalso
    rcases hb' : b.boundAt n p with _ | x
    · have hbind : bindStep enabled classes b (n, p) = b.bind k n p := by
        simp only [bindStep, henabled, hb', Option.isNone_none, and_self, if_true, hk]
      rw [hbind] at hfree
      exact boundAt_bind hb (OrderBook.firstOfClasses_spec hk).1 hfree
    · have hsame : bindStep enabled classes b (n, p) = b := by
        simp [bindStep, hb']
      rw [hsame, hb'] at hfree
      exact absurd hfree (by simp)

theorem settled_run {b : OrderBook} (hb : b.Sound) {l : List (Lane × Nat)}
    (hl : ∀ x ∈ l, x ∈ hamperPositions) :
    ∀ x ∈ l, Settled enabled classes (l.foldl (bindStep enabled classes) b) x.1 x.2 := by
  induction l generalizing b with
  | nil => exact fun x hx => absurd hx List.not_mem_nil
  | cons y l ih =>
    obtain ⟨n, p⟩ := y
    have hsound : (bindStep enabled classes b (n, p)).Sound :=
      hb.binder enabled classes (l := [(n, p)]) fun y hy => hl y (by simpa using Or.inl (by simpa using hy))
    have hrest : ∀ x ∈ l, x ∈ hamperPositions := fun x hx => hl x (List.mem_cons_of_mem _ hx)
    intro x hx
    rcases List.mem_cons.mp hx with rfl | hx
    · exact (settled_step hb n p).mono hsound (Bindings.run hsound hrest)
    · exact ih hsound hrest x hx

end

/-! ### The first binding -/

/-- A binder finds an order for a position. -/
def Takes (enabled : Lane → Bool) (classes : Lane → Mask) (b : OrderBook) (x : Lane × Nat) : Prop :=
  enabled x.1 = true ∧ b.boundAt x.1 x.2 = none ∧
    ∃ k ∈ b.queued, ∃ o, b.atSlot k = some o ∧ (classes x.1).getLsbD o.cls = true

section
variable {enabled : Lane → Bool} {classes : Lane → Mask} {b c : OrderBook}

theorem bindStep_of_not_takes {x : Lane × Nat} (h : ¬ Takes enabled classes b x) :
    bindStep enabled classes b x = b := by
  obtain ⟨n, p⟩ := x
  rcases OrderBook.bindStep_cases enabled classes b n p with heq | ⟨k, henabled, hfree, hk, -⟩
  · exact heq
  · obtain ⟨hqueued, o, ho, hclass⟩ := OrderBook.firstOfClasses_spec hk
    exact absurd ⟨henabled, hfree, k, hqueued, o, ho, hclass⟩ h

theorem foldl_of_not_takes {l : List (Lane × Nat)} (h : ∀ x ∈ l, ¬ Takes enabled classes b x) :
    l.foldl (bindStep enabled classes) b = b := by
  induction l with
  | nil => rfl
  | cons x l ih =>
    rw [List.foldl_cons, bindStep_of_not_takes (h x List.mem_cons_self)]
    exact ih fun y hy => h y (List.mem_cons_of_mem _ hy)

/-- A binding gives no position an order it did not have. -/
theorem Takes.of_bindings (hb : b.Sound) (hbind : Bindings enabled classes b c) {x : Lane × Nat}
    (h : Takes enabled classes c x) : Takes enabled classes b x := by
  obtain ⟨henabled, hfree, k, hk, u, hu, hclass⟩ := h
  obtain ⟨o, ho, hmay⟩ := (hbind.atSlot k).1 u hu
  exact ⟨henabled, hbind.bound_kept hb hfree, k, hbind.queued k hk, o, ho, hmay.cls ▸ hclass⟩

/-- The positions stand in ascending lane and then position order, R7 step 1. -/
theorem hamperPositions_pairwise : hamperPositions.Pairwise fun x y =>
    laneNumber x.1 < laneNumber y.1 ∨ (x.1 = y.1 ∧ x.2 < y.2) := by
  rw [hamperPositions, List.pairwise_flatMap]
  constructor
  · intro n _
    refine List.pairwise_map.mpr (List.pairwise_lt_range.imp fun hlt => Or.inr ⟨rfl, Nat.succ_lt_succ hlt⟩)
  · have hlanes : allLanes.Pairwise fun m n => laneNumber m < laneNumber n := by decide
    refine hlanes.imp fun hlt x hx y hy => Or.inl ?_
    obtain ⟨i, -, rfl⟩ := List.mem_map.mp hx
    obtain ⟨j, -, rfl⟩ := List.mem_map.mp hy
    exact hlt

/-- The run is the run on the book with the first position bound. -/
theorem binder_first (hb : b.Sound) {n : Lane} {p k : Nat} (henabled : enabled n = true)
    (hp : 1 ≤ p ∧ p ≤ 15) (hfree : b.boundAt n p = none)
    (hk : b.firstOfClasses (classes n) = some k)
    (hfirst : ∀ m r, (laneNumber m < laneNumber n ∨ (m = n ∧ r < p)) → 1 ≤ r → r ≤ 15 →
      ¬ Takes enabled classes b (m, r)) :
    hamperPositions.foldl (bindStep enabled classes) b =
      hamperPositions.foldl (bindStep enabled classes) (b.bind k n p) := by
  have hbind : Bindings enabled classes b (b.bind k n p) := .bind hb henabled hp hfree hk
  obtain ⟨l₁, l₂, hsplit⟩ := List.append_of_mem (OrderBook.mem_hamperPositions.mpr hp : (n, p) ∈ _)
  have hbefore : ∀ x ∈ l₁, ¬ Takes enabled classes b x := by
    intro x hx
    have hmem : x ∈ hamperPositions := by rw [hsplit]; exact List.mem_append_left _ hx
    have horder := hamperPositions_pairwise
    rw [hsplit, List.pairwise_append] at horder
    have hrange := OrderBook.mem_hamperPositions.mp (show (x.1, x.2) ∈ hamperPositions from hmem)
    exact hfirst x.1 x.2 (horder.2.2 x hx (n, p) List.mem_cons_self) hrange.1 hrange.2
  have hafter : ∀ x ∈ l₁, ¬ Takes enabled classes (b.bind k n p) x := fun x hx h =>
    hbefore x hx (h.of_bindings hb hbind)
  have hstep : bindStep enabled classes b (n, p) = b.bind k n p := by
    simp only [bindStep, henabled, hfree, Option.isNone_none, and_self, if_true, hk]
  have hdone : bindStep enabled classes (b.bind k n p) (n, p) = b.bind k n p :=
    bindStep_of_not_takes fun h =>
      boundAt_bind hb (OrderBook.firstOfClasses_spec hk).1 h.2.1
  rw [hsplit, List.foldl_append, List.foldl_append, foldl_of_not_takes hbefore,
    foldl_of_not_takes hafter, List.foldl_cons, List.foldl_cons, hstep, hdone]

end

/-! ### Promotion -/

theorem staged_after_enqueues {l : List Order} {b : OrderBook} {x : Order}
    (hx : x ∈ (l.foldl OrderBook.enqueue b).orders) (hstate : x.state = .staged) :
    x ∈ b.orders ∧ ∀ o ∈ l, o.slot ≠ x.slot := by
  induction l generalizing b with
  | nil => exact ⟨hx, fun o ho => absurd ho List.not_mem_nil⟩
  | cons o l ih =>
    obtain ⟨hin, hne⟩ := ih hx
    obtain ⟨y, hy, heq⟩ := OrderBook.mem_change.mp hin
    by_cases hslot : y.slot = o.slot
    · rw [if_pos hslot] at heq
      rw [← heq] at hstate
      exact absurd (show OrderState.queued = .staged from hstate) (by decide)
    · rw [if_neg hslot] at heq
      subst heq
      refine ⟨hy, fun z hz => ?_⟩
      rcases List.mem_cons.mp hz with rfl | hz
      · exact Ne.symm hslot
      · exact hne z hz

theorem runBinder_bindings {s : State} (h : s.book.Sound) :
    Bindings s.laneEnabled s.params.laneClasses.get s.book (runBinder s).book :=
  .run h fun _ hx => hx

theorem staged_eq_nil_iff {b : OrderBook} : b.staged = [] ↔ ∀ o ∈ b.orders, o.state ≠ .staged := by
  simp [OrderBook.staged]

theorem promote_of_none {s : State} (h : ∀ o ∈ s.book.orders, o.state ≠ .staged) : promote s = s :=
  if_pos (staged_eq_nil_iff.mpr h)

theorem promote_of_some {s : State} (h : ∃ o ∈ s.book.orders, o.state = .staged) :
    promote s = runBinder (s.onBook fun b => b.staged.foldl OrderBook.enqueue b) := by
  refine if_neg fun hnil => ?_
  obtain ⟨o, ho, hstate⟩ := h
  exact staged_eq_nil_iff.mp hnil o ho hstate

/-- Promotion changes the book alone, R9. -/
theorem promote_frame (s : State) : promote s = { s with book := (promote s).book } := by
  unfold promote
  split <;> rfl

theorem promote_staged {s : State} (hb : s.book.Sound) :
    ∀ o ∈ (promote s).book.orders, o.state ≠ .staged := by
  by_cases h : ∃ o ∈ s.book.orders, o.state = .staged
  · rw [promote_of_some h]
    intro u hu hstate
    have hsound : (s.onBook fun b => b.staged.foldl OrderBook.enqueue b).book.Sound :=
      hb.promoted (fun o ho => (mem_staged.mp ho).1) (fun o ho => (mem_staged.mp ho).2)
        (hb.slots.sublist List.filter_sublist)
    obtain ⟨o, ho, hmay⟩ := (runBinder_bindings hsound).mem hu
    obtain rfl := hmay.eq_of_not_opened (by rw [hstate]; decide)
    obtain ⟨hin, hne⟩ := staged_after_enqueues ho hstate
    exact hne u (List.mem_filter.mpr ⟨hin, by rw [hstate]; rfl⟩) rfl
  · have hnone : ∀ o ∈ s.book.orders, o.state ≠ .staged := fun o ho hs => h ⟨o, ho, hs⟩
    rw [promote_of_none hnone]
    exact hnone

theorem firstOfClasses_eq_some {b : OrderBook} {mask : Mask} {pre post : List Nat} {k : Nat}
    (hqueued : b.queued = pre ++ k :: post)
    (hk : ∃ o, b.atSlot k = some o ∧ mask.getLsbD o.cls = true)
    (hpre : ∀ i ∈ pre, ¬ ∃ o, b.atSlot i = some o ∧ mask.getLsbD o.cls = true) :
    b.firstOfClasses mask = some k := by
  rw [OrderBook.firstOfClasses, List.find?_eq_some_iff_append]
  obtain ⟨o, ho, hclass⟩ := hk
  refine ⟨by rw [ho]; exact hclass, pre, post, hqueued, fun i hi => ?_⟩
  rcases hat : b.atSlot i with _ | x
  · rfl
  · have hno : mask.getLsbD x.cls = false := by
      refine Classical.byContradiction fun hyes => ?_
      exact hpre i hi ⟨x, hat, by simpa using hyes⟩
    simp [hno]

theorem bind_queued {b : OrderBook} (hb : b.Sound) {pre post : List Nat} {k : Nat}
    (hqueued : b.queued = pre ++ k :: post) : (b.queued.filter fun i => i != k) = pre ++ post := by
  have hnodup := hb.queuedOnce
  rw [hqueued, List.nodup_append] at hnodup
  obtain ⟨-, hpost, hpre⟩ := hnodup
  have hkpost : k ∉ post := (List.nodup_cons.mp hpost).1
  have hprek : pre.filter (fun i => i != k) = pre :=
    List.filter_eq_self.mpr fun i hi => bne_iff_ne.mpr (hpre i hi k List.mem_cons_self)
  have hpostk : post.filter (fun i => i != k) = post :=
    List.filter_eq_self.mpr fun i hi => bne_iff_ne.mpr (ne_of_mem_of_not_mem hi hkpost)
  rw [hqueued, List.filter_append, List.filter_cons, if_neg (by simp), hprek, hpostk]

/-- Settles O29: a run of the binder is a run of bindings that leaves every position settled; it begins with the
first position that takes an order. -/
theorem binderLeavesNoMatchUnbound : Obligations.BinderLeavesNoMatchUnbound := by
  intro s hlaw
  have hb := bookLaw_iff.mp hlaw
  have hbindings := runBinder_bindings hb
  refine ⟨⟨rfl, hbindings.freeLines, fun k u hu => (hbindings.atSlot k).1 u hu,
      fun k => (hbindings.atSlot k).2, fun n p henabled hlow hhigh hfree o ho hqueued => ?settled⟩, ?first,
    ?joins, promote_frame s, promote_staged hb, promote_of_none⟩
  case settled =>
    exact settled_run hb (fun _ hx => hx) (n, p) (OrderBook.mem_hamperPositions.mpr ⟨hlow, hhigh⟩) henabled
      hfree o ho hqueued
  case first =>
    intro fits takes
    have htakes (m : Lane) (r : Nat) (hlow : 1 ≤ r) (hhigh : r ≤ 15)
        (h : Takes s.laneEnabled s.params.laneClasses.get s.book (m, r)) : takes m r :=
      ⟨h.1, hlow, hhigh, h.2.1, h.2.2⟩
    constructor
    · intro hnone
      have hsame : hamperPositions.foldl (bindStep s.laneEnabled s.params.laneClasses.get) s.book = s.book :=
        foldl_of_not_takes fun x hx h => by
          have hrange := OrderBook.mem_hamperPositions.mp (show (x.1, x.2) ∈ hamperPositions from hx)
          exact hnone x.1 x.2 (htakes x.1 x.2 hrange.1 hrange.2 h)
      rw [runBinder, State.onBook, hsame]
    · intro n p pre k post htake hqueued hfits hpre hfirst
      obtain ⟨henabled, hlow, hhigh, hfree, -⟩ := htake
      have hk : s.book.firstOfClasses (s.params.laneClasses.get n) = some k :=
        firstOfClasses_eq_some hqueued hfits hpre
      have hrun := binder_first hb henabled ⟨hlow, hhigh⟩ hfree hk
        fun m r hbefore hlow hhigh h => hfirst m r hbefore (htakes m r hlow hhigh h)
      rw [OrderBook.bind, bind_queued hb hqueued] at hrun
      exact congrArg (fun b => { s with book := b }) hrun
  case joins =>
    intro join hsome
    have hjoin : ∀ (l : List Order) (t : State), l.foldl join t =
        t.onBook fun b => l.foldl OrderBook.enqueue b := by
      intro l
      induction l with
      | nil => exact fun t => rfl
      | cons o l ih => exact fun t => ih _
    rw [promote_of_some hsome, hjoin]
    rfl

end Sys2Proof.Machine

end

section
/-! PROOFS. The receivers of the two links: a frame taken byte by byte by a hunting receiver is judged whole (R125,
R159), and what becomes of it (R126, R160 to R165). -/

namespace Sys2Proof.Machine

/-! ### Bytes -/

theorem toBytes_two (v : Nat) : toBytes 2 v = [BitVec.ofNat 8 (v / 256), BitVec.ofNat 8 v] := by
  simp [toBytes]

theorem be_two (hi lo : Byte) : be [hi, lo] = 256 * hi.toNat + lo.toNat := by simp [be]

theorem be_toBytes_two {v : Nat} (h : v < 65536) : be (toBytes 2 v) = v := by
  rw [toBytes_two, be_two, BitVec.toNat_ofNat, BitVec.toNat_ofNat]
  omega

theorem crcBytes_pair (bytes : List Byte) : ∃ hi lo, crcBytes bytes = [hi, lo] :=
  ⟨_, _, toBytes_two _⟩

/-! ### The intake receiver -/

section
variable {s : State} {b : Byte} {covered : List Byte}

theorem hears_setRx (rx : IntakeRx) : Hears (setRx rx s) ↔ Hears s := Iff.rfl

theorem setRx_same (h : s.link.rx = .hunting) : setRx .hunting s = s := by
  show { s with link := { s.link with rx := .hunting } } = s
  rw [← h]

theorem takeByte_start : takeByte 0xA5 (setRx .hunting s) = setRx (.header []) s := rfl

theorem takeByte_noise (h : s.link.rx = .hunting) (hb : b ≠ 0xA5) : takeByte b s = s := by
  rw [takeByte, h]
  exact if_neg hb

theorem takeByte_header (h : covered.length < 5) :
    takeByte b (setRx (.header covered) s) = setRx (.header (covered ++ [b])) s := if_pos h

theorem takeByte_headerEnd (h : covered.length = 5) :
    takeByte b (setRx (.header covered) s) =
      headerComplete (covered ++ [b]) (setRx (.header covered) s) := if_neg (by omega)

theorem takeByte_payload {left : Nat} (h : 1 < left) :
    takeByte b (setRx (.payload covered left) s) =
      setRx (.payload (covered ++ [b]) (left - 1)) s := if_neg (by omega)

theorem takeByte_payloadEnd :
    takeByte b (setRx (.payload covered 1) s) = setRx (.check (covered ++ [b]) none) s := rfl

theorem takeByte_checkHigh :
    takeByte b (setRx (.check covered none) s) = setRx (.check covered (some b)) s := rfl

theorem takeByte_checkLow {hi : Byte} :
    takeByte b (setRx (.check covered (some hi)) s) = judgeFrame covered [hi, b] (setRx .hunting s) := rfl

/-- The receiver behind a header, R159. -/
def afterHeader (covered : List Byte) (n : Nat) : IntakeRx :=
  if n = 0 then .check covered none else .payload covered n

theorem headerComplete_fits {rx : IntakeRx} (h : fieldAt covered 4 2 ≤ 240) :
    headerComplete covered (setRx rx s) = setRx (afterHeader covered (fieldAt covered 4 2)) s := by
  have hn : ¬ Config.maxPayload < fieldAt covered 4 2 := Nat.not_lt_of_le h
  rw [headerComplete, if_neg hn, afterHeader]
  split <;> rfl

theorem headerComplete_tooLong {rx : IntakeRx} (h : 240 < fieldAt covered 4 2) :
    headerComplete covered (setRx rx s) = linkError 0x02 (setRx .hunting s) := if_pos h

end

theorem intakeBytes_cons {s : State} (h : Hears s) (b : Byte) (bytes : List Byte) :
    intakeBytes (b :: bytes) s = intakeBytes bytes (takeByte b s) := by
  rw [intakeBytes, List.foldl_cons, unlessDeaf_of_hears h]
  rfl

theorem intakeBytes_deaf {s : State} (h : ¬ Hears s) (bytes : List Byte) : intakeBytes bytes s = s := by
  induction bytes with
  | nil => rfl
  | cons b bytes ih =>
    rw [intakeBytes, List.foldl_cons, unlessDeaf_of_not_hears h]
    exact ih

/-- Bytes outside frames are ignored, R159. -/
theorem intakeBytes_noise {s : State} (h : s.link.rx = .hunting) {bytes : List Byte}
    (hbytes : ∀ b ∈ bytes, b ≠ 0xA5) : intakeBytes bytes s = s := by
  by_cases hhears : Hears s
  · induction bytes with
    | nil => rfl
    | cons b bytes ih =>
      rw [intakeBytes_cons hhears, takeByte_noise h (hbytes b List.mem_cons_self)]
      exact ih fun x hx => hbytes x (List.mem_cons_of_mem _ hx)
  · exact intakeBytes_deaf hhears bytes

theorem intakeBytes_headerBytes {s : State} (h : Hears s) {covered bytes : List Byte}
    (hlength : (covered ++ bytes).length ≤ 5) (rest : List Byte) :
    intakeBytes (bytes ++ rest) (setRx (.header covered) s) =
      intakeBytes rest (setRx (.header (covered ++ bytes)) s) := by
  induction bytes generalizing covered with
  | nil => rw [List.nil_append, List.append_nil]
  | cons b bytes ih =>
    have hshort : covered.length < 5 := by
      rw [List.length_append, List.length_cons] at hlength
      omega
    have hcovered : covered ++ b :: bytes = covered ++ [b] ++ bytes := by simp
    rw [hcovered] at hlength ⊢
    rw [List.cons_append, intakeBytes_cons ((hears_setRx _).mpr h), takeByte_header hshort]
    exact ih hlength

/-- A start byte and a header, R159. -/
theorem intakeBytes_header {s : State} (h : Hears s) (hrx : s.link.rx = .hunting)
    (dest source kind tag hi lo : Byte) (rest : List Byte) :
    intakeBytes (0xA5 :: dest :: source :: kind :: tag :: hi :: lo :: rest) s =
      intakeBytes rest (headerComplete [dest, source, kind, tag, hi, lo]
        (setRx (.header [dest, source, kind, tag, hi]) s)) := by
  have hstart : takeByte 0xA5 s = setRx (.header []) s := by
    rw [← takeByte_start, setRx_same hrx]
  have hfive := intakeBytes_headerBytes h (covered := []) (bytes := [dest, source, kind, tag, hi])
    (by simp) (lo :: rest)
  rw [intakeBytes_cons h, hstart]
  refine hfive.trans ?_
  rw [intakeBytes_cons ((hears_setRx _).mpr h)]
  exact congrArg (intakeBytes rest) (takeByte_headerEnd (by simp))

/-- A payload taken whole, R159. -/
theorem intakeBytes_payload {s : State} (h : Hears s) {covered bytes : List Byte} (rest : List Byte) :
    intakeBytes (bytes ++ rest) (setRx (afterHeader covered bytes.length) s) =
      intakeBytes rest (setRx (.check (covered ++ bytes) none) s) := by
  induction bytes generalizing covered with
  | nil => rw [List.nil_append, List.append_nil]; rfl
  | cons b bytes ih =>
    have hcovered : covered ++ b :: bytes = covered ++ [b] ++ bytes := by simp
    rw [hcovered, ← ih, List.cons_append, intakeBytes_cons ((hears_setRx _).mpr h)]
    congr 1
    cases bytes with
    | nil => exact takeByte_payloadEnd
    | cons c bytes => exact takeByte_payload (by simp)

theorem frame_covered (f : Frame) : f.covered =
    [f.dest, f.source, f.kind, f.tag, BitVec.ofNat 8 (f.payload.length / 256),
      BitVec.ofNat 8 f.payload.length] ++ f.payload := by
  rw [Frame.covered, toBytes_two]
  rfl

/-- A frame taken by a hunting receiver is judged whole, R159. -/
theorem intakeBytes_frame {s : State} (h : Hears s) (hrx : s.link.rx = .hunting) (f : Frame)
    (hlength : f.payload.length ≤ 240) (hi lo : Byte) :
    intakeBytes (0xA5 :: (f.covered ++ [hi, lo])) s = judgeFrame f.covered [hi, lo] s := by
  have hn : fieldAt [f.dest, f.source, f.kind, f.tag, BitVec.ofNat 8 (f.payload.length / 256),
      BitVec.ofNat 8 f.payload.length] 4 2 = f.payload.length := by
    show be [BitVec.ofNat 8 (f.payload.length / 256), BitVec.ofNat 8 f.payload.length] = _
    rw [← toBytes_two, be_toBytes_two (by omega)]
  rw [frame_covered, List.append_assoc]
  refine (intakeBytes_header h hrx _ _ _ _ _ _ (f.payload ++ [hi, lo])).trans ?_
  rw [headerComplete_fits (by rw [hn]; exact hlength), hn, intakeBytes_payload h,
    intakeBytes_cons ((hears_setRx _).mpr h), takeByte_checkHigh,
    intakeBytes_cons ((hears_setRx _).mpr h), takeByte_checkLow, setRx_same hrx]
  rfl

theorem judgeFrame_damaged {covered check : List Byte} (h : check ≠ crcBytes covered) (s : State) :
    judgeFrame covered check s = linkError 0x01 s := if_pos (Ne.symm h)

/-- A frame whose check is good goes by its destination, and then by its kind, R161 and R163. -/
theorem intakeBytes_good {s : State} (h : Hears s) (hrx : s.link.rx = .hunting) (f : Frame)
    (hlength : f.payload.length ≤ 240) : intakeBytes f.bytes s =
      if f.dest ≠ s.link.node then s else sortFrame f.kind f.source f.tag f.payload s := by
  obtain ⟨hi, lo, hcheck⟩ := crcBytes_pair f.covered
  rw [Frame.bytes, hcheck, intakeBytes_frame h hrx f hlength, judgeFrame,
    if_neg (not_not_intro hcheck)]
  rw [frame_covered]
  rfl

theorem exec_intakeFrame {s : State} {t : State} {bytes : List Byte} (h : intakeBytes bytes s = t) :
    exec (.intakeFrameReceived bytes) s = .next t := congrArg Host.Outcome.next h

/-- Settles O6: a REQUEST frame to the part is taken as `takeRequest` takes the request of its command. -/
theorem requestFrameIsItsCommand : Obligations.RequestFrameIsItsCommand := by
  intro i code q s hi hwf hrx
  obtain ⟨own, hown, hexec⟩ := exec_request hi s
  rw [hexec]
  refine exec_intakeFrame ?_
  by_cases h : Hears s
  · have hq : q.wf = true := by
      cases i <;> cases hi <;> exact hwf
    have hlength : (requestFrameTo s.link.node code q).payload.length ≤ 240 := by
      have := of_decide_eq_true hq
      simp only [requestFrameTo, List.length_cons]
      simp only [Config.maxPayload] at this
      omega
    have hdest : (requestFrameTo s.link.node code q).dest = s.link.node := rfl
    rw [intakeBytes_good h hrx _ hlength, unlessDeaf_of_hears h, if_neg (not_not_intro hdest)]
    have howner : (ownerOf code).getD (fun _ t => .refuse t .unknownRequest) = own := by
      rw [hown]
      rfl
    rw [← howner]
    rfl
  · rw [intakeBytes_deaf h, unlessDeaf_of_not_hears h]

/-! ### The lane receiver -/

theorem laneBytes_noise {s : State} (h : s.wall.rx = .hunting) {bytes : List Byte}
    (hbytes : ∀ b ∈ bytes, b ≠ 0xA6) : laneBytes bytes s = s := by
  induction bytes with
  | nil => rfl
  | cons b bytes ih =>
    have hb : laneByte s b = s := by
      rw [laneByte, h]
      exact if_neg (hbytes b List.mem_cons_self)
    rw [laneBytes, List.foldl_cons, hb]
    exact ih fun x hx => hbytes x (List.mem_cons_of_mem _ hx)

theorem laneBytes_collecting (s : State) {got bytes : List Byte} (hlength : (got ++ bytes).length ≤ 5)
    (rest : List Byte) :
    laneBytes (bytes ++ rest) (s.onWall fun w => { w with rx := .collecting got }) =
      laneBytes rest (s.onWall fun w => { w with rx := .collecting (got ++ bytes) }) := by
  induction bytes generalizing got with
  | nil => rw [List.nil_append, List.append_nil]
  | cons b bytes ih =>
    have hshort : got.length < 5 := by
      rw [List.length_append, List.length_cons] at hlength
      omega
    have hgot : got ++ b :: bytes = got ++ [b] ++ bytes := by simp
    have hbyte : laneByte (s.onWall fun w => { w with rx := .collecting got }) b =
        s.onWall fun w => { w with rx := .collecting (got ++ [b]) } := if_pos hshort
    rw [hgot] at hlength ⊢
    rw [laneBytes, List.cons_append, List.foldl_cons, hbyte]
    exact ih hlength

theorem laneByte_last (s : State) {got : List Byte} (h : ¬ got.length < 5) (b : Byte) :
    laneByte (s.onWall fun w => { w with rx := .collecting got }) b =
      judgeLaneFrame (got ++ [b]) (s.onWall fun w => { w with rx := .hunting }) := by
  rw [laneByte]
  exact if_neg h

/-- Seven bytes from a start byte on are judged, R125. -/
theorem laneBytes_frame {s : State} (h : s.wall.rx = .hunting) (lane kind position value hi lo : Byte) :
    laneBytes [0xA6, lane, kind, position, value, hi, lo] s =
      judgeLaneFrame [lane, kind, position, value, hi, lo] s := by
  have hstart : laneByte s 0xA6 = s.onWall fun w => { w with rx := .collecting [] } := by
    rw [laneByte, h]
    rfl
  have hend : (s.onWall fun w => { w with rx := .hunting }) = s := by
    show { s with wall := { s.wall with rx := .hunting } } = s
    rw [← h]
  have hlast : laneByte (s.onWall fun w => { w with rx := .collecting [lane, kind, position, value, hi] }) lo =
      judgeLaneFrame [lane, kind, position, value, hi, lo] (s.onWall fun w => { w with rx := .hunting }) :=
    laneByte_last s (by simp) lo
  rw [laneBytes, List.foldl_cons, hstart]
  refine (laneBytes_collecting s (got := []) (bytes := [lane, kind, position, value, hi]) (by simp)
    [lo]).trans (hlast.trans ?_)
  rw [hend]

/-- Bytes 1 to 4 with a good check go on to their fields, R126. -/
theorem laneBytes_good {s : State} (h : s.wall.rx = .hunting) (lane kind position value : Byte) :
    laneBytes ([0xA6, lane, kind, position, value] ++ crcBytes [lane, kind, position, value]) s =
      laneFrame lane kind position value s := by
  obtain ⟨hi, lo, hcheck⟩ := crcBytes_pair [lane, kind, position, value]
  rw [hcheck]
  refine (laneBytes_frame h lane kind position value hi lo).trans ?_
  exact if_pos hcheck

theorem laneFrame_bad {lane kind position value : Byte} (s : State)
    (h : ¬ (1 ≤ lane.toNat ∧ lane.toNat ≤ 8) ∨ kind ≠ 0x02 ∨
      (15 < position.toNat ∧ position ≠ 0xFF) ∨ value ≠ 0) :
    laneFrame lane kind position value s =
      linkErrorWith 0x81 (if 1 ≤ lane.toNat ∧ lane.toNat ≤ 8 then lane.toNat else 0) s := by
  have hlane := laneOf_isSome lane.toNat
  rw [laneFrame]
  rcases hn : laneOf lane.toNat with _ | n
  · rw [hn] at hlane
    have hout : ¬ (1 ≤ lane.toNat ∧ lane.toNat ≤ 8) := by simpa using hlane.symm
    rw [if_neg hout]
    rfl
  · have hnumber := laneOf_eq_some.mp hn
    have hin : 1 ≤ lane.toNat ∧ lane.toNat ≤ 8 := hnumber ▸ laneNumber_bounds n
    have hfields : ¬ (kind = 0x02 ∧ (position.toNat ≤ 15 ∨ position = 0xFF) ∧ value = 0) := by
      rintro ⟨hkind, hposition, hvalue⟩
      rcases h with h | h | ⟨hlow, hff⟩ | h
      · exact h hin
      · exact h hkind
      · exact hposition.elim (Nat.not_le_of_lt hlow) hff
      · exact h hvalue
    rw [if_pos hin, hnumber]
    exact if_neg hfields

theorem exec_laneFrame {s t : State} (hrunning : s.inReset = false) {bytes : List Byte}
    (h : laneBytes bytes s = t) : exec (.laneFrameReceived bytes) s = .next t :=
  congrArg Host.Outcome.next ((unlessInReset_of_running hrunning _).trans h)

/-- Settles O8: each damage is found where its last byte is taken, and the receiver hunts again. -/
theorem damagedFramesAreDropped : Obligations.DamagedFramesAreDropped := by
  refine ⟨fun f hi lo s h hrx hlength hcheck => exec_intakeFrame ?check,
    fun dest source kind tag hi lo s h hrx hlong => exec_intakeFrame ?long,
    fun bytes s hrx hbytes => exec_intakeFrame (intakeBytes_noise hrx hbytes),
    fun lane kind position value hi lo s hrunning hrx hcheck => exec_laneFrame hrunning ?laneCheck,
    fun lane kind position value s hrunning hrx hbad => exec_laneFrame hrunning ?laneFields,
    fun bytes s hrx hbytes => ?laneNoise⟩
  case check =>
    rw [intakeBytes_frame h hrx f hlength, judgeFrame_damaged hcheck]
    rfl
  case long =>
    rw [intakeBytes_header h hrx, headerComplete_tooLong, setRx_same hrx]
    · rfl
    · exact lt_of_lt_of_eq hlong (be_two hi lo).symm
  case laneCheck =>
    rw [laneBytes_frame hrx]
    exact if_neg (Ne.symm hcheck)
  case laneFields => rw [laneBytes_good hrx, laneFrame_bad s hbad]
  case laneNoise =>
    have hsame := laneBytes_noise hrx hbytes
    show Host.Outcome.next (unlessInReset (laneBytes bytes) s) = .next s
    rw [unlessInReset, hsame, ite_self]

/-! ### Sorting -/

theorem ownerOf_of_unknown {code : Byte} (h : code.toNat ∉ requestCodes) : ownerOf code = none := by
  unfold ownerOf
  split
  case h_32 => rfl
  all_goals exact absurd (by rw [‹code.toNat = _›]; decide) h

theorem takeRequest_of_full {s : State} (h : 32 ≤ s.link.txQueue.length) (code : Byte)
    (own : List Byte → State → Answer) (q : Request) : takeRequest code own q s = dropRequest code s :=
  if_pos h

theorem takeRequest_of_foreign {q : Request} {s : State} (h : s.link.txQueue.length < 32)
    (hsource : q.source ≠ s.params.controlNode) (code : Byte) (own : List Byte → State → Answer) :
    takeRequest code own q s = withResponse code q .notPermitted [] s :=
  (if_neg (Nat.not_le_of_lt h)).trans (if_pos hsource)

theorem takeRequest_of_control {q : Request} {s : State} (h : s.link.txQueue.length < 32)
    (hsource : q.source = s.params.controlNode) (code : Byte) (own : List Byte → State → Answer) :
    takeRequest code own q s = respond code q (own q.body s) :=
  (if_neg (Nat.not_le_of_lt h)).trans (if_neg (not_not_intro hsource))

/-- A REQUEST frame is a request with its code, or 0 for an empty payload. -/
theorem requestFrame_eq (source tag : Byte) (payload : List Byte) (s : State) : ∃ own,
    requestFrame source tag payload s =
      takeRequest (payload.headD 0x00) own { source := source, tag := tag, body := payload.drop 1 } s := by
  cases payload with
  | nil => exact ⟨fun _ t => .refuse t .badLength, rfl⟩
  | cons code body => exact ⟨_, rfl⟩

/-- Settles O9: the sort of a frame by its kind, and of a REQUEST by the checks before its owner. -/
theorem goodFramesAreSorted : Obligations.GoodFramesAreSorted := by
  intro f s h hrx hlength
  have hgood := intakeBytes_good h hrx f hlength
  have hsort {t : State} (hdest : f.dest = s.link.node)
      (ht : sortFrame f.kind f.source f.tag f.payload s = t) :
      exec (.intakeFrameReceived f.bytes) s = .next t :=
    exec_intakeFrame (hgood.trans ((if_neg (not_not_intro hdest)).trans ht))
  have hscan : f.kind = 0x01 →
      sortFrame f.kind f.source f.tag f.payload s = scanFrame f.source f.payload s := fun hkind => by
    rw [hkind]
    rfl
  have hrequest : f.kind = 0x10 →
      sortFrame f.kind f.source f.tag f.payload s = requestFrame f.source f.tag f.payload s :=
    fun hkind => by
      rw [hkind]
      rfl
  refine ⟨fun hdest => exec_intakeFrame (hgood.trans (if_pos hdest)), fun hdest hkind hsource => ?foreignScan,
    fun hdest hkind hsource hlen => ?shortScan, fun hdest hkind hsource hlen => ?scan,
    fun hdest hkind => ?foreign, fun hdest h1 h2 h3 h4 => ?unknownKind,
    fun hdest hkind hfull => ?full, fun hdest hkind hroom hsource => ?notPermitted,
    fun hdest hkind hempty hsource hroom => ?empty,
    fun code body hdest hkind hpayload hcode hsource hroom => ?unknown⟩
  case foreignScan => exact hsort hdest ((hscan hkind).trans (if_pos hsource))
  case shortScan =>
    exact hsort hdest ((hscan hkind).trans ((if_neg (not_not_intro hsource)).trans (if_pos hlen)))
  case scan =>
    exact hsort hdest ((hscan hkind).trans
      ((if_neg (not_not_intro hsource)).trans (if_neg (not_not_intro hlen))))
  case foreign =>
    refine hsort hdest ?_
    rcases hkind with hkind | hkind <;> rw [hkind] <;> rfl
  case unknownKind =>
    refine hsort hdest ?_
    rw [sortFrame, if_neg h1, if_neg h2, if_neg (by rintro (h | h) <;> contradiction)]
    rfl
  case full =>
    obtain ⟨own, hown⟩ := requestFrame_eq f.source f.tag f.payload s
    exact hsort hdest ((hrequest hkind).trans (hown.trans (takeRequest_of_full hfull _ _ _)))
  case notPermitted =>
    obtain ⟨own, hown⟩ := requestFrame_eq f.source f.tag f.payload s
    exact hsort hdest ((hrequest hkind).trans (hown.trans (takeRequest_of_foreign hroom hsource _ _)))
  case empty =>
    refine hsort hdest ((hrequest hkind).trans ?_)
    rw [hempty]
    exact takeRequest_of_control (q := { source := f.source, tag := f.tag, body := [] }) hroom hsource 0x00
      fun _ t => .refuse t .badLength
  case unknown =>
    refine hsort hdest ((hrequest hkind).trans ?_)
    rw [hpayload, requestFrame, ownerOf_of_unknown hcode]
    exact takeRequest_of_control (q := { source := f.source, tag := f.tag, body := body }) hroom hsource _ _

end Sys2Proof.Machine

end

section
/-! PROOFS. The steps a count makes due at the Divert Scheduler: the fire, the end of a dwell, the lapse, the miss, the
exit and the jam (R92 to R98, R103 to R105). -/

namespace Sys2Proof.Machine

/-! ### Which entries a step names -/

theorem next_of_running {f : State → State} {s t : State} (h : s.inReset = false) (hf : f s = t) :
    (Host.Outcome.next (unlessInReset f s) : Host.Outcome State Fault Refusal) = .next t :=
  congrArg Host.Outcome.next ((unlessInReset_of_running h f).trans hf)

theorem fireDue_iff {a : Arm} {p : Pos} {e : Entry} :
    e.fireDue a p = true ↔ e.dest.arm = some a ∧ e.state = .scheduled p := by
  unfold Entry.fireDue Entry.scheduledOn Entry.isScheduled Entry.firePosition
  split <;> simp_all

theorem missDue_iff {tag : Tag} {p : Pos} {e : Entry} :
    e.missDue tag p = true ↔ e.tag = tag ∧ ∃ f, e.state = .fired f p := by
  unfold Entry.missDue
  split <;> simp_all

theorem exitDue_iff {tag : Tag} {p : Pos} {e : Entry} :
    e.exitDue tag p = true ↔ e.tag = tag ∧ e.exitAt = p ∧ ∃ r, e.state = .outbound r := by
  unfold Entry.exitDue
  split <;> simp_all

theorem find?_of_split {α : Type} {p : α → Bool} {l₁ l₂ : List α} {x : α} (hx : p x = true)
    (hnot : ∀ y ∈ l₁, p y = false) : (l₁ ++ x :: l₂).find? p = some x := by
  rw [List.find?_append, List.find?_eq_none.mpr fun y hy => by simp [hnot y hy],
    List.find?_cons_of_pos hx]
  rfl

theorem eraseP_of_split {α : Type} {p : α → Bool} {l₁ l₂ : List α} {x : α} (hx : p x = true)
    (hnot : ∀ y ∈ l₁, p y = false) : (l₁ ++ x :: l₂).eraseP p = l₁ ++ l₂ := by
  rw [List.eraseP_append_right _ fun y hy => by simp [hnot y hy], List.eraseP_cons_of_pos hx]

/-! ### The fire, the dwell and the lapse -/

theorem fireArm_of_split {a : Arm} {s : State} {pre post : List Entry} {e : Entry}
    (hq : s.divert.queue = pre ++ e :: post) (harm : e.dest.arm = some a)
    (he : e.state = .scheduled s.belt.p)
    (hpre : ∀ x ∈ pre, x.dest.arm = some a → x.state ≠ .scheduled s.belt.p) :
    fireArm a s =
      { s with
        divert :=
          { s.divert with
            queue := pre ++
              { e with
                state := .fired s.belt.p
                  (s.belt.p + BitVec.ofNat 16 s.params.confirmWindow) } :: post
            arms := s.divert.arms.set a
              { lastFire := some s.belt.p
                output := some (s.belt.p + BitVec.ofNat 16 s.params.armDwell)
                lapseDue := false } }
        status := { s.status with counters := s.status.counters.modify 12 bump } } := by
  have hdue : e.fireDue a s.p = true := fireDue_iff.mpr ⟨harm, he⟩
  have hnot : ∀ x ∈ pre, x.fireDue a s.p = false := fun x hx =>
    Bool.eq_false_iff.mpr fun h => hpre x hx (fireDue_iff.mp h).1 (fireDue_iff.mp h).2
  have hany : s.divert.queue.any (Entry.fireDue a s.p) = true :=
    List.any_eq_true.mpr ⟨e, by simp [hq], hdue⟩
  have hchange : changeFirst (Entry.fireDue a s.p)
      (fun e => { e with state := .fired s.p (beyond s.p s.params.confirmWindow) }) s.divert.queue = _ :=
    (congrArg _ hq).trans (changeFirst_of_split _ hdue hnot)
  simp only [fireArm, if_pos hany, changeEntry, State.onDivert, hchange] <;> rfl

theorem fireArm_of_none {a : Arm} {s : State}
    (h : ∀ x ∈ s.divert.queue, x.dest.arm = some a → x.state ≠ .scheduled s.belt.p) : fireArm a s = s :=
  if_neg fun hany => by
    obtain ⟨x, hx, hdue⟩ := List.any_eq_true.mp hany
    exact h x hx (fireDue_iff.mp hdue).1 (fireDue_iff.mp hdue).2

/-- Settles O30: a fire changes the first entry of its arm SCHEDULED at P; a dwell end and a lapse change the record
of their arm. -/
theorem armsFireDwellAndLapse : Obligations.ArmsFireDwellAndLapse := by
  intro a s hrunning
  refine ⟨fun pre e post hq harm he hpre => next_of_running hrunning (fireArm_of_split hq harm he hpre),
    fun h => next_of_running hrunning (fireArm_of_none h),
    fun h => next_of_running hrunning (if_pos h), fun h => next_of_running hrunning (if_neg h),
    fun h => next_of_running hrunning (if_pos h),
    fun h => next_of_running hrunning (if_neg (Bool.eq_false_iff.mp h))⟩

/-! ### Misses -/

theorem missReport_eq (e : Entry) (s : State) :
    missReport e s =
      { kind := .missedDivert
        detail := match e.dest with
          | .place _ _ _ _ _ => 0
          | .voidLane _ => 1
          | _ => 2
        lane := match e.dest with
          | .place n _ _ _ _ => laneNumber n
          | .voidLane n => laneNumber n
          | .reject _ => 9
          | .recirculate _ => 0
        position := match e.dest with
          | .place _ p _ _ _ => some p
          | _ => none
        order := match e.dest with
          | .place _ _ slot _ _ => ((s.book.atSlot slot).map (·.number)).getD 0
          | _ => 0
        stock := e.stock.getD 0
        carrier := e.carrier.getD 0 } := by
  unfold missReport Dest.missDetail
  cases e.dest <;> rfl

theorem missEntry_of_split {tag : Tag} {s : State} {pre post : List Entry} {e : Entry} {f : Pos}
    (hq : s.divert.queue = pre ++ e :: post) (htag : e.tag = tag) (he : e.state = .fired f s.belt.p)
    (hpre : ∀ x ∈ pre, x.tag = tag → ∀ g, x.state ≠ .fired g s.belt.p) :
    let missed : State :=
      { s with
        divert := { s.divert with queue := pre ++ { e with state := .outbound .missed } :: post } }
    missEntry tag s = releaseEntry e (count .misses (report (missReport e missed) missed)) := by
  have hdue : e.missDue tag s.p = true := missDue_iff.mpr ⟨htag, f, he⟩
  have hnot : ∀ x ∈ pre, x.missDue tag s.p = false := fun x hx =>
    Bool.eq_false_iff.mpr fun h => by
      obtain ⟨hx_tag, g, hg⟩ := missDue_iff.mp h
      exact hpre x hx hx_tag g hg
  have hchange : changeFirst (Entry.missDue tag s.p)
      (fun e => { e with state := .outbound .missed }) s.divert.queue = _ :=
    (congrArg _ hq).trans (changeFirst_of_split _ hdue hnot)
  have hfind : s.divert.queue.find? (Entry.missDue tag s.p) = some e :=
    (congrArg _ hq).trans (find?_of_split hdue hnot)
  simp only [missEntry, hfind, changeEntry, State.onDivert, hchange]

theorem missEntry_of_none {tag : Tag} {s : State}
    (h : ∀ x ∈ s.divert.queue, x.tag = tag → ∀ g, x.state ≠ .fired g s.belt.p) : missEntry tag s = s := by
  have hfind : s.divert.queue.find? (Entry.missDue tag s.p) = none :=
    List.find?_eq_none.mpr fun x hx hdue => by
      obtain ⟨htag, g, hg⟩ := missDue_iff.mp hdue
      exact h x hx htag g hg
  simp only [missEntry, hfind]

/-- Settles O31: a miss makes the first FIRED entry due under the tag OUTBOUND, reports it and releases what it
holds. -/
theorem missedEntryGoesOutbound : Obligations.MissedEntryGoesOutbound := by
  intro tag s hrunning
  refine ⟨fun pre e post f hq htag he hpre => next_of_running hrunning ?_,
    fun h => next_of_running hrunning ?_⟩
  · rw [withLights, missEntry_of_split hq htag he hpre, missReport_eq]
    rfl
  · rw [withLights, missEntry_of_none h, relight_self]

/-! ### Exits -/

theorem countsPass_iff {r : OutboundReason} :
    r.countsPass = true ↔ r = .unplaceable ∨ r = .missed ∨ r = .rejectBlocked := by
  cases r <;> decide

theorem passOf_eq (carrier : Option Nat) (r : OutboundReason) (s : State) :
    passOf carrier r s =
      { s with
        recirc :=
          match carrier with
          | none => s.recirc
          | some c =>
            if c ≠ 0 ∧ (r = .unplaceable ∨ r = .missed ∨ r = .rejectBlocked) then
              countPass c s.recirc
            else s.recirc } := by
  cases carrier with
  | none => rfl
  | some c =>
    by_cases h : c ≠ 0 ∧ (r = .unplaceable ∨ r = .missed ∨ r = .rejectBlocked)
    · have hpass : ¬ (c = 0 ∨ r.countsPass = false) := by
        rw [← countsPass_iff] at h
        simp [h]
      simp only [passOf, if_neg hpass, if_pos h, State.onRecirc]
    · have hpass : c = 0 ∨ r.countsPass = false := by
        rw [← countsPass_iff, Classical.not_and_iff_not_or_not, Classical.not_not, Bool.not_eq_true] at h
        exact h
      simp only [passOf, if_pos hpass, if_neg h]

theorem exitEntry_of_split {tag : Tag} {s : State} {pre post : List Entry} {e : Entry} {r : OutboundReason}
    (hq : s.divert.queue = pre ++ e :: post) (htag : e.tag = tag) (he : e.state = .outbound r)
    (hat : e.exitAt = s.belt.p)
    (hpre : ∀ x ∈ pre, x.tag = tag → x.exitAt = s.belt.p → ∀ g, x.state ≠ .outbound g) :
    exitEntry tag s = drainTest (passOf e.carrier r
      { s with
        divert := { s.divert with queue := pre ++ post }
        status := { s.status with counters := s.status.counters.modify 11 bump } }) := by
  have hdue : e.exitDue tag s.p = true := exitDue_iff.mpr ⟨htag, hat, r, he⟩
  have hnot : ∀ x ∈ pre, x.exitDue tag s.p = false := fun x hx =>
    Bool.eq_false_iff.mpr fun h => by
      obtain ⟨hx_tag, hx_at, g, hg⟩ := exitDue_iff.mp h
      exact hpre x hx hx_tag hx_at g hg
  have herase : s.divert.queue.eraseP (Entry.exitDue tag s.p) = pre ++ post :=
    (congrArg _ hq).trans (eraseP_of_split hdue hnot)
  have hfind : s.divert.queue.find? (Entry.exitDue tag s.p) = some e :=
    (congrArg _ hq).trans (find?_of_split hdue hnot)
  have hreason : e.outboundReason = some r := by simp only [Entry.outboundReason, he]
  simp only [exitEntry, hfind, exited, hreason, removeEntry, State.onDivert, herase] <;> rfl

theorem exitEntry_of_none {tag : Tag} {s : State}
    (h : ∀ x ∈ s.divert.queue, x.tag = tag → x.exitAt = s.belt.p → ∀ g, x.state ≠ .outbound g) :
    exitEntry tag s = s := by
  have hfind : s.divert.queue.find? (Entry.exitDue tag s.p) = none :=
    List.find?_eq_none.mpr fun x hx hdue => by
      obtain ⟨htag, hat, g, hg⟩ := exitDue_iff.mp hdue
      exact h x hx htag hat g hg
  simp only [exitEntry, hfind]

theorem countPass_of_record {c : Nat} {pre post : List Recirc} {r : Recirc} (hr : r.carrier = c)
    (hpre : ∀ x ∈ pre, x.carrier ≠ c) :
    countPass c (pre ++ r :: post) = pre ++ { r with passes := min (r.passes + 1) 7 } :: post := by
  have hany : (pre ++ r :: post).any (fun r => r.carrier == c) = true :=
    List.any_eq_true.mpr ⟨r, by simp, beq_iff_eq.mpr hr⟩
  exact (if_pos hany).trans
    (changeFirst_of_split _ (beq_iff_eq.mpr hr) fun x hx => beq_false_of_ne (hpre x hx))

theorem countPass_of_stranger {c : Nat} {t : List Recirc} (h : ∀ x ∈ t, x.carrier ≠ c) :
    countPass c t = (if t.length < 64 then t else t.drop 1) ++ [{ carrier := c, passes := 1 }] := by
  have hany : ¬ t.any (fun r => r.carrier == c) = true := fun hany => by
    obtain ⟨x, hx, heq⟩ := List.any_eq_true.mp hany
    exact h x hx (beq_iff_eq.mp heq)
  rw [countPass, if_neg hany, apply_ite (· ++ _)]
  rfl

/-- Settles O32: an exit takes the first OUTBOUND entry due under the tag, and a pass is counted on the carrier's record
or on a new one. -/
theorem exitCountsAPass : Obligations.ExitCountsAPass := by
  refine ⟨fun tag s hrunning => ⟨fun pre e post r hq htag he hat hpre =>
    next_of_running hrunning ?_, fun h => next_of_running hrunning (exitEntry_of_none h)⟩,
    fun c t => ⟨fun pre r post ht hr hpre => ht ▸ countPass_of_record hr hpre,
      fun h hlt => ?_, fun h hle => ?_⟩⟩
  · rw [exitEntry_of_split hq htag he hat hpre, passOf_eq] <;> rfl
  · rw [countPass_of_stranger h, if_pos hlt]
  · rw [countPass_of_stranger h, if_neg (Nat.not_lt.mpr hle)]

/-! ### Jams -/

theorem jamArm_of_idle {a : Arm} {s : State}
    (h : (s.divert.eyes.get a).blockStart = none ∨ (s.divert.eyes.get a).jamDue = false ∨
      s.jammed a = true) : jamArm a s = s :=
  if_neg fun ⟨hdue, hblocked, hjammed⟩ => by
    rcases h with h | h | h
    · simp [h] at hblocked
    · exact absurd hdue (by simp [h])
    · simp [h] at hjammed

theorem exec_laneJam_of_not_due {a : Arm} {s : State}
    (h : (s.divert.eyes.get a).blockStart = none ∨ (s.divert.eyes.get a).jamDue = false ∨
      s.jammed a = true) : exec (.laneJam a) s = .next s := by
  have hjam : withLights (jamArm a) s = s := by
    rw [withLights, jamArm_of_idle h, relight_self]
  show Host.Outcome.next (unlessInReset (withLights (jamArm a)) s) = .next s
  rw [unlessInReset, hjam, ite_self]

theorem jamArm_of_due {a : Arm} {s : State} {b : Pos}
    (heye : s.divert.eyes.get a = { blockStart := some b, jamDue := true }) (hjammed : s.jammed a = false) :
    jamArm a s =
      (match a with
        | .lane n => jamLane n
        | .reject => jamReject) (setChuteEye a { blockStart := some b, jamDue := false } s) := by
  have hdue : (s.divert.eyes.get a).jamDue ∧ (s.divert.eyes.get a).blockStart.isSome ∧ s.jammed a = false := by
    simp [heye, hjammed]
  simp only [jamArm, if_pos hdue]
  rw [heye]
  cases a <;> rfl

theorem giveUp_of_report (p : Entry → Bool) (reason : OutboundReason) (r : Report) (s : State) :
    giveUp p reason (report r s) =
      (s.divert.queue.filter p).foldl (fun t e => releaseEntry e t)
        { report r s with
          divert :=
            { (report r s).divert with
              queue := s.divert.queue.map fun e =>
                if p e then { e with state := .outbound reason } else e } } := by
  simp only [giveUp, State.onDivert, report_divert]

theorem foldl_releaseEntry_of_reject {l : List Entry} (h : ∀ e ∈ l, e.scheduledOn .reject = true)
    (s : State) : l.foldl (fun t e => releaseEntry e t) s = s := by
  induction l with
  | nil => rfl
  | cons e l ih =>
    have hdest : e.dest.arm = some .reject := by
      have he := h e List.mem_cons_self
      simp only [Entry.scheduledOn, Bool.and_eq_true, beq_iff_eq] at he
      exact he.1
    have hkeep : releaseEntry e s = s := by
      unfold releaseEntry
      split
      · rename_i hplace
        simp [hplace, Dest.arm] at hdest
      · rfl
    rw [List.foldl_cons, hkeep]
    exact ih fun x hx => h x (List.mem_cons_of_mem _ hx)

/-- Settles O33: a jam that is due marks its lane or the reject arm, reports it, and gives up what its arm has
SCHEDULED. -/
theorem jamGivesUpScheduledEntries : Obligations.JamGivesUpScheduledEntries := by
  refine ⟨fun n b r s hrunning heye hlane => next_of_running hrunning ?_,
    fun b s hrunning heye hreject => next_of_running hrunning ?_, fun a s => exec_laneJam_of_not_due⟩
  · have hjammed : s.jammed (.lane n) = false := by
      cases r <;> simp [State.jammed, hlane]
    have hreturn : (s.divert.laneStates.get n).returnState = r := by
      cases r <;> simp [LaneState.returnState, hlane]
    rw [withLights, jamArm_of_due heye hjammed]
    simp only [jamLane, setChuteEye, onDivert_divert, hreturn, giveUp_of_report]
    cases r <;> rfl
  · rw [withLights, jamArm_of_due heye hreject]
    simp only [jamReject, setChuteEye, giveUp_of_report, onDivert_divert]
    rw [foldl_releaseEntry_of_reject fun e he => (List.mem_filter.mp he).2]
    exact relight_of_same fun i _ => congrFun (lightAt_congr (by simp) (by simp)) i

end Sys2Proof.Machine
end

section
/-! PROOFS. The edges of a chute eye: a confirm, a stray, and the clearing of a jam (R88, R94, R95, R106, R113,
R114); and the requests for arms and lanes (R101, R102, R107 to R110). -/

namespace Sys2Proof.Machine

/-! ### Blocking edges -/

theorem arrive_of_room {e : ChuteEntry} {l : List ChuteEntry} (h : l.length < 16) : arrive e l = l ++ [e] :=
  if_pos h

theorem arrive_of_full {e x : ChuteEntry} {l older newer : List ChuteEntry} (hl : l = older ++ x :: newer)
    (hfull : 16 ≤ l.length) (hx : x.kind = .stray) (holder : ∀ y ∈ older, y.kind ≠ .stray) :
    arrive e l = older ++ newer ++ [e] := by
  have herase : l.eraseP (fun x => x.kind == .stray) = older ++ newer :=
    (congrArg _ hl).trans (eraseP_of_split (beq_iff_eq.mpr hx) fun y hy => beq_false_of_ne (holder y hy))
  exact (if_neg (Nat.not_lt.mpr hfull)).trans (congrArg (· ++ [e]) herase)

theorem forgetCarrier_eq (carrier : Option Nat) (s : State) :
    forgetCarrier carrier s =
      { s with
        recirc :=
          match carrier with
          | none => s.recirc
          | some c => if c = 0 then s.recirc else s.recirc.eraseP fun r => r.carrier == c } := by
  cases carrier with
  | none => rfl
  | some c => by_cases h : c = 0 <;> simp only [forgetCarrier, h, if_true, if_false, State.onRecirc]

section
variable {a : Arm} {n : Lane} {s : State} {pre post : List Entry} {e : Entry}

theorem chuteBlocked_of_awaited (hq : s.divert.queue = pre ++ e :: post) (he : e.awaits a = true)
    (hpre : ∀ x ∈ pre, x.awaits a = false) :
    chuteBlocked a s =
      confirmEntry a e (setChuteEye a { blockStart := some s.p, jamDue := false } s) := by
  have hfind : (setChuteEye a { blockStart := some s.p, jamDue := false } s).divert.queue.find?
      (Entry.awaits a) = some e :=
    (congrArg _ hq).trans (find?_of_split he hpre)
  simp only [chuteBlocked, hfind]

theorem chuteBlocked_of_stray (h : ∀ x ∈ s.divert.queue, x.awaits a = false) :
    chuteBlocked a s = strayAt a (setChuteEye a { blockStart := some s.p, jamDue := false } s) := by
  have hfind : (setChuteEye a { blockStart := some s.p, jamDue := false } s).divert.queue.find?
      (Entry.awaits a) = none :=
    List.find?_eq_none.mpr fun x hx => Bool.not_eq_true _ ▸ h x hx
  simp only [chuteBlocked, hfind]

theorem confirmEntry_of_lane (hq : s.divert.queue = pre ++ e :: post) (he : e.awaits (.lane n) = true)
    (hpre : ∀ x ∈ pre, x.awaits (.lane n) = false) :
    confirmEntry (.lane n) e s = drainTest (forgetCarrier e.carrier
      { s with
        divert := { s.divert with queue := pre ++ post }
        wall := { s.wall with
          chutes := s.wall.chutes.set n (arrive e.chuteEntry (s.wall.chutes.get n)) } }) := by
  have herase : s.divert.queue.eraseP (Entry.awaits (.lane n)) = pre ++ post :=
    (congrArg _ hq).trans (eraseP_of_split he hpre)
  simp only [confirmEntry, removeEntry, State.onDivert, herase, chuteArrival, setChute, State.onWall]

theorem confirmEntry_of_reject (hq : s.divert.queue = pre ++ e :: post) (he : e.awaits .reject = true)
    (hpre : ∀ x ∈ pre, x.awaits .reject = false) :
    confirmEntry .reject e s = drainTest (forgetCarrier e.carrier
      { s with divert := { s.divert with queue := pre ++ post } }) := by
  have herase : s.divert.queue.eraseP (Entry.awaits .reject) = pre ++ post :=
    (congrArg _ hq).trans (eraseP_of_split he hpre)
  simp only [confirmEntry, removeEntry, State.onDivert, herase]

theorem takeEdge_of_awaited (hq : s.divert.queue = pre ++ e :: post) (he : e.awaits a = true)
    (hpre : ∀ x ∈ pre, x.awaits a = false) :
    takeEdge (.chute a) true s =
      relight s (confirmEntry a e (setChuteEye a { blockStart := some s.p, jamDue := false } s)) :=
  congrArg (relight s) (chuteBlocked_of_awaited hq he hpre)

theorem takeEdge_of_stray (h : ∀ x ∈ s.divert.queue, x.awaits a = false) :
    takeEdge (.chute a) true s =
      relight s (strayAt a (setChuteEye a { blockStart := some s.p, jamDue := false } s)) :=
  congrArg (relight s) (chuteBlocked_of_stray h)

end

/-! ### Clearing edges -/

theorem takeEdge_of_idle {a : Arm} {s : State} (h : jamArm a s = s) :
    takeEdge (.chute a) false s =
      clearJam a (setChuteEye a { blockStart := none, jamDue := false } s) := by
  show chuteCleared a s = _
  rw [chuteCleared, withLights, h, relight_self]

theorem giveUp_eyes (p : Entry → Bool) (reason : OutboundReason) (s : State) :
    (giveUp p reason s).divert.eyes = s.divert.eyes := by
  rw [(giveUp_bookOnly p reason s).divert_eq]
  rfl

theorem jamArm_eye (a : Arm) (s : State) :
    jamArm a s = s ∨ ((jamArm a s).divert.eyes.get a).jamDue = false := by
  by_cases h : (s.divert.eyes.get a).jamDue ∧ (s.divert.eyes.get a).blockStart.isSome ∧ s.jammed a = false
  · right
    rw [jamArm, if_pos h]
    cases a <;> simp [jamLane, jamReject, giveUp_eyes, setLane, setChuteEye]
  · exact .inl (if_neg h)

theorem takeEdge_of_jam (a : Arm) (s : State) :
    takeEdge (.chute a) false s = takeEdge (.chute a) false (withLights (jamArm a) s) := by
  rcases jamArm_eye a s with h | h
  · rw [withLights, h, relight_self]
  · rw [takeEdge_of_idle (jamArm_of_not_due a (withLights (jamArm a) s) (by rw [withLights, relight_divert, h]))]
    rfl

theorem jamArm_of_jammed {a : Arm} {s : State} (h : s.jammed a = true) : jamArm a s = s :=
  jamArm_of_idle (.inr (.inr h))

theorem jammed_of_lane {n : Lane} {r : ReturnState} {s : State} (h : s.divert.laneStates.get n = .jammed r) :
    s.jammed (.lane n) = true := by
  simp only [State.jammed, h]

theorem clearJam_of_lane {n : Lane} {s : State} (h : s.jammed (.lane n) = false) :
    clearJam (.lane n) s = s := by
  simp only [clearJam]
  split
  · rename_i hr
    rw [jammed_of_lane hr] at h
    cases h
  · rfl

theorem clearJam_of_jammed {n : Lane} {r : ReturnState} {s : State}
    (h : s.divert.laneStates.get n = .jammed r) :
    clearJam (.lane n) s =
      let t := report { kind := .laneJamCleared, detail := r.code, lane := laneNumber n }
        (setLane n r.laneState s)
      if r = .enabled then runBinder t else t := by
  simp only [clearJam, h]

/-- Settles O34: a blocking edge confirms the oldest FIRED entry that awaits the eye or is a stray; a clearing edge
clears a jam. -/
theorem chuteEyeConfirmsOldestFired : Obligations.ChuteEyeConfirmsOldestFired := by
  intro s
  refine ⟨fun n pre e post hq he hpre => ⟨fun hroom => ?_, fun older x newer hl hfull hx holder => ?_⟩,
    fun n h => ?_, fun pre e post hq he hpre => ?_, fun h => takeEdge_of_stray h,
    fun a u hrunning hexec => ?_, fun n hjammed hdue => ?_, fun n hlane => ?_, fun n hlane => ?_,
    fun hjammed => ?_, fun hjammed hdue => ?_⟩
  · rw [takeEdge_of_awaited hq he hpre,
      confirmEntry_of_lane (s := setChuteEye (.lane n) { blockStart := some s.p, jamDue := false } s) hq he hpre,
      forgetCarrier_eq, setChuteEye, onDivert_wall, arrive_of_room hroom]
    rfl
  · rw [takeEdge_of_awaited hq he hpre,
      confirmEntry_of_lane (s := setChuteEye (.lane n) { blockStart := some s.p, jamDue := false } s) hq he hpre,
      forgetCarrier_eq, setChuteEye, onDivert_wall, arrive_of_full hl hfull hx holder]
    rfl
  · rw [takeEdge_of_stray h, strayAt, strayArrival]
    simp only [setChute, State.onWall, count_wall, report_wall] <;> rfl
  · rw [takeEdge_of_awaited hq he hpre,
      confirmEntry_of_reject (s := setChuteEye .reject { blockStart := some s.p, jamDue := false } s) hq he hpre,
      forgetCarrier_eq]
    rfl
  · have hu : u = withLights (jamArm a) s :=
      (Host.Outcome.next.inj ((next_of_running hrunning rfl).symm.trans hexec)).symm
    rw [hu, takeEdge_of_jam]
  · exact (takeEdge_of_idle (jamArm_of_not_due _ s hdue)).trans
      (clearJam_of_lane (s := setChuteEye (.lane n) { blockStart := none, jamDue := false } s) hjammed)
  · exact (takeEdge_of_idle (jamArm_of_jammed (jammed_of_lane hlane))).trans
      (clearJam_of_jammed (s := setChuteEye (.lane n) { blockStart := none, jamDue := false } s) hlane)
  · exact (takeEdge_of_idle (jamArm_of_jammed (jammed_of_lane hlane))).trans
      (clearJam_of_jammed (s := setChuteEye (.lane n) { blockStart := none, jamDue := false } s) hlane)
  · rw [takeEdge_of_idle (jamArm_of_jammed (a := .reject) hjammed)]
    exact if_pos hjammed
  · rw [takeEdge_of_idle (jamArm_of_not_due _ s hdue)]
    exact if_neg (Bool.eq_false_iff.mp hjammed)

/-! ### ARM_LANES and DISARM_LANES -/

theorem leastExitDist_eq (p : Params) :
    leastExitDist p = max p.rejectDist (max (max (max (p.laneDist.get .l1) (p.laneDist.get .l2))
      (max (p.laneDist.get .l3) (p.laneDist.get .l4)))
      (max (max (p.laneDist.get .l5) (p.laneDist.get .l6))
        (max (p.laneDist.get .l7) (p.laneDist.get .l8)))) + p.confirmWindow + 1 := by
  simp only [leastExitDist, PerLane.toList, allLanes, List.map_cons, List.map_nil, List.foldl_cons,
    List.foldl_nil, Nat.max_assoc]

theorem armLanes_of_stopped {s : State} (h : s.pause.stopAsserted = true) :
    armLanes s = .refuse s .wrongState := if_pos h

theorem armLanes_of_inconsistent {s : State} (hstop : s.pause.stopAsserted = false)
    (hdist : s.params.exitDist < leastExitDist s.params) :
    armLanes s = ⟨s, .inconsistent, toBytes 2 (leastExitDist s.params)⟩ := by
  have hgeometry : geometryConsistent s.params = false := decide_eq_false (Nat.not_le.mpr hdist)
  rw [armLanes, if_neg (Bool.eq_false_iff.mp hstop), if_pos hgeometry]

theorem armLanes_of_consistent {s : State} (hstop : s.pause.stopAsserted = false)
    (hdist : leastExitDist s.params ≤ s.params.exitDist) :
    armLanes s = .ok (setArmsLive s) (toBytes 1 1) := by
  have hgeometry : ¬ geometryConsistent s.params = false := by simp [geometryConsistent, hdist]
  rw [armLanes, if_neg (Bool.eq_false_iff.mp hstop), if_neg hgeometry]

/-- Settles O35: ARM_LANES compares EXIT_DIST with the least that makes the geometry consistent, DISARM_LANES gives up
what is SCHEDULED. -/
theorem armsAreSetAndCleared : Obligations.ArmsAreSetAndCleared := by
  intro q s h hbody
  have harm {r : Answer} (hr : armLanes s = r) : ownArmLanes q.body s = r :=
    (emptyBody_nil hbody _ s).trans hr
  have hdisarm {r : Answer} (hr : disarmLanes s = r) : ownDisarmLanes q.body s = r :=
    (emptyBody_nil hbody _ s).trans hr
  simp only [← leastExitDist_eq]
  refine ⟨fun hstop => serve_refuses h (harm (armLanes_of_stopped hstop)),
    fun hstop hdist => serve_answers h (harm (armLanes_of_inconsistent hstop hdist)),
    fun hstop hdist => serve_answers h (harm (armLanes_of_consistent hstop hdist)),
    fun hlive => serve_answers h (hdisarm (if_neg (Bool.eq_false_iff.mp hlive))),
    fun hlive => serve_answers h (hdisarm (if_pos hlive))⟩

/-! ### LANE_ENABLE and LANE_DISABLE -/

theorem withLane_of_none {own : Lane → State → State} {body : List Byte} {s : State}
    (hlength : body.length = 1) (hlane : fieldAt body 0 1 = 0 ∨ 8 < fieldAt body 0 1) :
    withLane own body s = .refuse s .badField := by
  have hnone : laneOf (fieldAt body 0 1) = none := by
    rw [← Option.not_isSome_iff_eq_none, laneOf_isSome]
    simp only [Bool.and_eq_true, decide_eq_true_eq]
    omega
  rw [withLane, if_neg (Classical.not_not.mpr hlength), hnone]

theorem withLane_of_lane {own : Lane → State → State} {body : List Byte} {s t : State} {n : Lane}
    {st : LaneState} (hlength : body.length = 1) (hlane : laneNumber n = fieldAt body 0 1)
    (hown : own n s = t) (hst : t.divert.laneStates.get n = st) :
    withLane own body s = .ok t (toBytes 1 st.code ++ toBytes 1 st.returnCode) := by
  rw [withLane, if_neg (Classical.not_not.mpr hlength), ← hlane, laneOf_laneNumber]
  simp only [hown, hst]

theorem laneState_set (n : Lane) (st : LaneState) (s : State) :
    (setLane n st s).divert.laneStates.get n = st := by
  simp [setLane]

/-- Settles O36: in each lane state, what LANE_ENABLE and LANE_DISABLE do to it. -/
theorem lanesAreEnabledAndDisabled : Obligations.LanesAreEnabledAndDisabled := by
  intro q s h hlength
  refine ⟨fun hlane => ⟨serve_refuses h (own := ownLaneEnable) (withLane_of_none hlength hlane),
    serve_refuses h (own := ownLaneDisable) (withLane_of_none hlength hlane)⟩, fun n hlane => ?_⟩
  have enabled {t : State} {st : LaneState} (ht : enableLane n s = t)
      (hst : t.divert.laneStates.get n = st) :
      exec (.laneEnable q) s =
        .next (withResponse 0x52 q .ok (toBytes 1 st.code ++ toBytes 1 st.returnCode) t) :=
    serve_answers h (own := ownLaneEnable) (withLane_of_lane hlength hlane ht hst)
  have disabled {t : State} {st : LaneState} (ht : disableLane n s = t)
      (hst : t.divert.laneStates.get n = st) :
      exec (.laneDisable q) s =
        .next (withResponse 0x53 q .ok (toBytes 1 st.code ++ toBytes 1 st.returnCode) t) :=
    serve_answers h (own := ownLaneDisable) (withLane_of_lane hlength hlane ht hst)
  refine ⟨fun hst => ⟨enabled (by simp only [enableLane, hst]) hst,
      disabled (by simp only [disableLane, hst]) (laneState_set n .disabled s)⟩,
    fun hst => ⟨enabled (t := runBinder (setLane n .enabled s)) (st := .enabled)
        (by simp only [enableLane, hst]) ?_,
      disabled (by simp only [disableLane, hst]) hst⟩,
    fun r hst => ⟨enabled (by simp only [enableLane, hst]) (laneState_set n (.jammed .enabled) s),
      disabled (by simp only [disableLane, hst]) (laneState_set n (.jammed .disabled) s)⟩⟩
  rw [runBinder_divert]
  exact laneState_set n .enabled s

end Sys2Proof.Machine
end

section
/-! PROOFS. The Belt Position Unit and the Capture Unit: the edges of EYE_CAP (R50 to R54), the inputs of the eyes (R45
to R48), the scans (R55, R57, R58) and the encoder pulse (R42, R46). -/

namespace Sys2Proof.Machine

/-! ### The edges of EYE_CAP -/

theorem setTrail_append (p : Pos) (older : List Capture) (c : Capture) :
    setTrail p (older ++ [c]) = older ++ [{ c with trail := some (c.trail.getD p) }] := by
  induction older with
  | nil => rfl
  | cons x xs ih =>
    cases h : xs ++ [c] with
    | nil => simp at h
    | cons y ys => rw [List.cons_append, h, setTrail, ← h, ih, List.cons_append]; simp

theorem trailingEdge_of_newest {s : State} {older : List Capture} {c : Capture}
    (h : s.capture.list = older ++ [c]) :
    trailingEdge s =
      { s with
        capture :=
          { s.capture with list := older ++ [{ c with trail := some (c.trail.getD s.p) }] } } := by
  simp only [trailingEdge, State.onCapture, h, setTrail_append]

/-- Settles O39: a blocking edge makes a capture or reports the overrun, a clearing edge sets the trailing position of
the newest. -/
theorem captureEyeEdgesMakeAndCloseCaptures : Obligations.CaptureEyeEdgesMakeAndCloseCaptures := by
  intro s
  refine ⟨fun hroom => (if_pos hroom).trans (makeCapture_eq s.p none s),
    fun hfull => if_neg (Nat.not_lt.mpr hfull), fun hempty => ?_,
    fun older c hlist => ⟨fun hopen => ?_, fun hclosed => ?_⟩⟩
  · show trailingEdge s = s
    simp only [trailingEdge, State.onCapture, hempty, setTrail]
    rw [← hempty]
  · show trailingEdge s = _
    rw [trailingEdge_of_newest hlist, hopen]
    rfl
  · show trailingEdge s = s
    obtain ⟨p, hp⟩ := Option.ne_none_iff_exists'.mp hclosed
    rw [trailingEdge_of_newest hlist, hp, Option.getD_some, ← hp, ← hlist]

/-! ### The input of an eye -/

theorem PerEye.set_get {α : Type} (v : PerEye α) (e : Eye) : v.set e (v.get e) = v :=
  PerEye.eq_of_get fun d => by
    rw [PerEye.get_set]
    split
    · rename_i h
      rw [h]
    · rfl

theorem eyeInput_of_same {e : Eye} {high : Bool} {s : State} (h : s.pins.eyes.get e = high) :
    eyeInput e high s = s := by
  subst h
  simp only [eyeInput, bne_self_eq_false, Bool.false_eq_true, false_and, if_false, State.onPins,
    PerEye.set_get]

theorem eyeInput_of_changed {e : Eye} {high : Bool} {s : State} (h : s.pins.eyes.get e ≠ high)
    (hrunning : s.inReset = false) :
    eyeInput e high s = settleEye e { s with pins := { s.pins with eyes := s.pins.eyes.set e high } } :=
  if_pos ⟨bne_iff_ne.mpr h, hrunning⟩

section
variable {e : Eye} {s : State}

theorem settleEye_of_equal (h : s.rawLevel e = (s.belt.eyes.get e).blocked) :
    settleEye e s = setFilter e { s.belt.eyes.get e with count := 0 } s := if_pos h

theorem settleEye_of_filtered (h : s.rawLevel e ≠ (s.belt.eyes.get e).blocked)
    (hfilter : s.params.eyeFilter ≠ 0) : settleEye e s = s :=
  (if_neg h).trans (if_neg hfilter)

theorem settleEye_of_unfiltered (h : s.rawLevel e ≠ (s.belt.eyes.get e).blocked)
    (hfilter : s.params.eyeFilter = 0) : settleEye e s = makeEdge e s :=
  (if_neg h).trans (if_pos hfilter)

end

/-- Settles O38: a changed input settles its eye, by the three cases of R46 and R48. -/
theorem eyeInputFollowsPolarityAndFilter : Obligations.EyeInputFollowsPolarityAndFilter := by
  intro e high s
  refine ⟨?_, fun hsame => congrArg Host.Outcome.next (eyeInput_of_same hsame),
    fun hne hrunning => ⟨fun h => ?_, fun h hfilter => ?_, fun h hfilter => ?_⟩⟩
  · cases e <;> rfl
  · exact congrArg Host.Outcome.next ((eyeInput_of_changed hne hrunning).trans (settleEye_of_equal h))
  · exact congrArg Host.Outcome.next
      ((eyeInput_of_changed hne hrunning).trans (settleEye_of_filtered h hfilter))
  · exact congrArg Host.Outcome.next
      ((eyeInput_of_changed hne hrunning).trans (settleEye_of_unfiltered h hfilter))

/-! ### Expiry and scans -/

section
variable {s : State} {c : Capture} {rest : List Capture}

theorem expireHead_of_due (hlist : s.capture.list = c :: rest) (hdue : s.params.pairMax < s.age c) :
    expireHead s =
      handItem { capture := c, scan := none } { s with capture := { s.capture with list := rest } } := by
  simp only [expireHead, hlist, if_pos hdue, State.onCapture]

theorem handItem_capture (it : Item) (t : State) : (handItem it t).capture = t.capture :=
  (Acts.steady (handItem_acts it t)).capture

theorem headFresh_of_empty (h : s.capture.list = []) : HeadFresh s := fun c rest hlist => by
  rw [h] at hlist
  cases hlist

theorem headFresh_of_young (hlist : s.capture.list = c :: rest) (h : ¬ s.params.pairMax < s.age c) :
    HeadFresh s := fun d tail hd => by
  obtain ⟨rfl, -⟩ := List.cons.inj (hlist.symm.trans hd)
  exact Nat.not_lt.mp h

theorem scanArrival_of_fresh (h : HeadFresh s) (sc : Scan) : scanArrival sc s = pairScan sc s :=
  congrArg (pairScan sc) (sweep_of_fresh _ h)

theorem scanArrival_of_due (hlist : s.capture.list = c :: rest) (hdue : s.params.pairMax < s.age c)
    (sc : Scan) : scanArrival sc s = scanArrival sc (expireHead s) := by
  have hlength : (expireHead s).capture.list.length = rest.length := by
    rw [expireHead_of_due hlist hdue, handItem_capture]
  rw [scanArrival, scanArrival, sweepAll, sweepAll, hlength, hlist, List.length_cons, sweep]

theorem pairScan_of_young (hlist : s.capture.list = c :: rest) (h : s.age c < s.params.pairMin)
    (sc : Scan) : pairScan sc s = orphanScan 1 sc s := by
  simp only [pairScan, hlist, if_pos h]

theorem pairScan_of_pair (hlist : s.capture.list = c :: rest) (h : s.params.pairMin ≤ s.age c)
    (sc : Scan) :
    pairScan sc s = handItem { capture := c, scan := some sc }
      (count .scansPaired { s with capture := { s.capture with list := rest } }) := by
  simp only [pairScan, hlist, if_neg (Nat.not_lt.mpr h), State.onCapture]

end

/-- Settles O41: the head expires when it is past PAIR_MAX, and a scan is swept for, then an orphan or paired with
the head. -/
theorem scansPairWithTheHead : Obligations.ScansPairWithTheHead := by
  intro s
  refine ⟨fun hrunning c rest hlist hdue => next_of_running hrunning (expireHead_of_due hlist hdue),
    fun hrunning h => next_of_running hrunning (expireHead_of_fresh fun c rest hlist =>
      Nat.not_lt.mp (h c rest hlist)),
    fun sc => ⟨fun hempty => ?_, fun c rest hlist => ⟨fun hdue => ?_, fun hyoung hmin => ?_,
      fun hyoung hmin => ?_⟩⟩⟩
  · rw [scanArrival_of_fresh (headFresh_of_empty hempty)]
    simp only [pairScan, hempty] <;> rfl
  · rw [scanArrival_of_due hlist hdue, expireHead_of_due hlist hdue]
    rfl
  · exact (scanArrival_of_fresh (headFresh_of_young hlist hyoung) sc).trans (pairScan_of_young hlist hmin sc)
  · exact (scanArrival_of_fresh (headFresh_of_young hlist hyoung) sc).trans (pairScan_of_pair hlist hmin sc)

end Sys2Proof.Machine
end

section
/-! PROOFS. The encoder pulse (R42, R46): the steps still due as the commands that take them, the count and its marks,
and the filters of the eyes in turn. -/

namespace Sys2Proof.Machine

/-! ### The steps still due, as commands -/

section
variable {run : State → Instr → State} (hrun : ∀ t c u, exec c t = .next u → run t c = u)
include hrun

/-- A list of commands of one kind, run in turn, is the step of each taken in turn. -/
theorem foldl_run {α : Type} {cmd : α → Instr} {f : State → α → State}
    (hexec : ∀ t a, t.inReset = false → exec (cmd a) t = .next (f t a))
    (hkeeps : ∀ t a, (f t a).inReset = t.inReset) (l : List α) {s : State} (h : s.inReset = false) :
    (l.map cmd).foldl run s = l.foldl f s ∧ (l.foldl f s).inReset = false := by
  induction l generalizing s with
  | nil => exact ⟨rfl, h⟩
  | cons a l ih =>
    rw [List.map_cons, List.foldl_cons, List.foldl_cons, hrun s (cmd a) (f s a) (hexec s a h)]
    exact ih ((hkeeps s a).trans h)

end

theorem foldl_expireHead {α : Type} (l : List α) (s : State) :
    l.foldl (fun t _ => expireHead t) s = sweep l.length s := by
  induction l generalizing s with
  | nil => rfl
  | cons a l ih => rw [List.foldl_cons, ih, List.length_cons, sweep]

theorem expireHead_inReset (s : State) : (expireHead s).inReset = s.inReset :=
  (Works.firm (Deeds.works (sweep_deeds 1 s))).inReset

/-- The steps still due are their commands, run in the order of `takeOutstanding`. -/
theorem takeOutstanding_eq_run {run : State → Instr → State}
    (hrun : ∀ t c u, exec c t = .next u → run t c = u) {s : State} (h : s.inReset = false) :
    takeOutstanding s =
      (let t := (s.capture.list.map fun _ => Instr.captureExpiry).foldl run s
      let t := (allArms.map Instr.fire).foldl run t
      let t := (allArms.map Instr.dwellEnd).foldl run t
      let t := (allArms.map Instr.lastFireLapse).foldl run t
      let t := (t.divert.queue.map fun e => Instr.missedDivert e.tag).foldl run t
      let t := (t.divert.queue.map fun e => Instr.exit e.tag).foldl run t
      (allArms.map Instr.laneJam).foldl run t) := by
  simp only [takeOutstanding, sweepAll, ← foldl_expireHead, List.foldl_map (f := Entry.tag)]
  obtain ⟨h1, r1⟩ := foldl_run hrun (cmd := fun _ : Capture => .captureExpiry)
    (fun t _ ht => next_of_running ht rfl) (fun t _ => expireHead_inReset t) s.capture.list h
  rw [h1]
  generalize s.capture.list.foldl (fun t _ => expireHead t) s = t at r1 ⊢
  obtain ⟨h2, r2⟩ := foldl_run hrun (cmd := .fire) (f := fun t a => fireArm a t)
    (fun t a ht => next_of_running ht rfl) (fun t a => (Act.fired a t).steady.inReset) allArms r1
  rw [h2]
  generalize allArms.foldl (fun t a => fireArm a t) t = t at r2 ⊢
  obtain ⟨h3, r3⟩ := foldl_run hrun (cmd := .dwellEnd) (f := fun t a => endDwell a t)
    (fun t a ht => next_of_running ht rfl) (fun t a => (Act.dwellEnded a t).steady.inReset) allArms r2
  rw [h3]
  generalize allArms.foldl (fun t a => endDwell a t) t = t at r3 ⊢
  obtain ⟨h4, r4⟩ := foldl_run hrun (cmd := .lastFireLapse) (f := fun t a => lapseLastFire a t)
    (fun t a ht => next_of_running ht rfl) (fun t a => (Act.lapsed a t).steady.inReset) allArms r3
  rw [h4]
  generalize allArms.foldl (fun t a => lapseLastFire a t) t = t at r4 ⊢
  obtain ⟨h5, r5⟩ := foldl_run hrun (cmd := fun e : Entry => .missedDivert e.tag)
    (f := fun t e => withLights (missEntry e.tag) t) (fun t e ht => next_of_running ht rfl)
    (fun t e => (Acts.steady (withLights_acts (Act.missed e.tag t).acts)).inReset) t.divert.queue r4
  rw [h5]
  generalize t.divert.queue.foldl (fun t e => withLights (missEntry e.tag) t) t = t at r5 ⊢
  obtain ⟨h6, r6⟩ := foldl_run hrun (cmd := fun e : Entry => .exit e.tag)
    (f := fun t e => exitEntry e.tag t) (fun t e ht => next_of_running ht rfl)
    (fun t e => (Acts.steady (exitEntry_acts e.tag t)).inReset) t.divert.queue r5
  rw [h6]
  generalize t.divert.queue.foldl (fun t e => exitEntry e.tag t) t = t at r6 ⊢
  exact (foldl_run hrun (cmd := .laneJam) (f := fun t a => withLights (jamArm a) t)
    (fun t a ht => next_of_running ht rfl)
    (fun t a => (Acts.steady (withLights_acts (jamArm_acts a t))).inReset) allArms r6).1.symm

/-! ### The count and its marks -/

theorem markLapse_eq (p : Pos) (gap : Nat) (r : ArmRec) :
    r.markLapse p gap =
      { r with
        lapseDue := match r.lastFire with
          | none => false
          | some l => decide (gap ≤ (p - l).toNat) } := by
  unfold ArmRec.markLapse
  cases r.lastFire <;> rfl

theorem markJam_eq (p : Pos) (len : Nat) (r : ChuteEye) :
    r.markJam p len =
      { r with
        jamDue := match r.blockStart with
          | none => false
          | some b => decide (len ≤ (p - b).toNat) } := by
  unfold ChuteEye.markJam
  cases r.blockStart <;> rfl

theorem makeCount_eq (s : State) :
    makeCount s =
      { s with
        belt := { s.belt with phase := 0, p := s.belt.p + 1 }
        divert :=
          { s.divert with
            arms := s.divert.arms.map (ArmRec.markLapse (s.belt.p + 1) s.params.armGap)
            eyes := s.divert.eyes.map (ChuteEye.markJam (s.belt.p + 1) s.params.jamLen) } } := rfl

/-- Where nothing stands due there is nothing to take. -/
theorem takeOutstanding_of_nothingDue {s : State} (h : NothingDue s) : takeOutstanding s = s := by
  have hsweep : sweepAll s = s := sweep_of_fresh _ fun c rest hlist => h.expiry c (by simp [hlist])
  have hfire (a : Arm) : fireArm a s = s := fireArm_of_none fun x hx _ => h.fire x hx
  have hdwell (a : Arm) : endDwell a s = s := if_neg (h.dwell a)
  have hlapse (a : Arm) : lapseLastFire a s = s := if_neg (Bool.eq_false_iff.mp (h.lapse a))
  have hmiss (tag : Tag) : withLights (missEntry tag) s = s := by
    rw [withLights, missEntry_of_none fun x hx _ => h.miss x hx, relight_self]
  have hexit (tag : Tag) : exitEntry tag s = s :=
    exitEntry_of_none fun x hx _ hat r hr => h.exit x hx r hr hat
  have hjam (a : Arm) : withLights (jamArm a) s = s := by
    rw [withLights, jamArm_of_not_due a s (h.jam a), relight_self]
  simp only [takeOutstanding, hsweep, foldl_of_fixed (f := fun t a => fireArm a t) hfire,
    foldl_of_fixed (f := fun t a => endDwell a t) hdwell,
    foldl_of_fixed (f := fun t a => lapseLastFire a t) hlapse,
    foldl_of_fixed (f := fun t tag => withLights (missEntry tag) t) hmiss,
    foldl_of_fixed (f := fun t tag => exitEntry tag t) hexit,
    foldl_of_fixed (f := fun t a => withLights (jamArm a) t) hjam]

/-! ### The filters -/

section
variable {e : Eye} {s : State}

theorem pulseEye_of_equal (h : s.rawLevel e = (s.belt.eyes.get e).blocked) : pulseEye s e = s := if_pos h

theorem pulseEye_of_edge (h : s.rawLevel e ≠ (s.belt.eyes.get e).blocked)
    (hfilter : s.params.eyeFilter ≤ (s.belt.eyes.get e).count + 1) : pulseEye s e = makeEdge e s :=
  (if_neg h).trans (if_pos hfilter)

theorem pulseEye_of_count (h : s.rawLevel e ≠ (s.belt.eyes.get e).blocked)
    (hfilter : (s.belt.eyes.get e).count + 1 < s.params.eyeFilter) :
    pulseEye s e = setFilter e { s.belt.eyes.get e with count := (s.belt.eyes.get e).count + 1 } s :=
  (if_neg h).trans (if_neg (Nat.not_le.mpr hfilter))

end

/-- An eye's filter after a pulse that makes no edge, R46. -/
def pulsedFilter (s : State) (e : Eye) : EyeFilter :=
  if s.rawLevel e = (s.belt.eyes.get e).blocked then s.belt.eyes.get e
  else { s.belt.eyes.get e with count := (s.belt.eyes.get e).count + 1 }

theorem pulsedFilter_congr {e : Eye} {s t : State} (hraw : t.rawLevel e = s.rawLevel e)
    (hfilter : t.belt.eyes.get e = s.belt.eyes.get e) : pulsedFilter t e = pulsedFilter s e := by
  rw [pulsedFilter, pulsedFilter, hraw, hfilter]

theorem pulseEye_of_no_edge {e : Eye} {s : State}
    (h : s.rawLevel e ≠ (s.belt.eyes.get e).blocked →
      (s.belt.eyes.get e).count + 1 < s.params.eyeFilter) :
    pulseEye s e = setFilter e (pulsedFilter s e) s := by
  by_cases heq : s.rawLevel e = (s.belt.eyes.get e).blocked
  · rw [pulseEye_of_equal heq, pulsedFilter, if_pos heq]
    simp only [setFilter, State.onBelt, PerEye.set_get]
  · rw [pulseEye_of_count heq (h heq), pulsedFilter, if_neg heq]

/-- A pulse that makes no edge at the eyes of a list changes their filters alone, each by itself. -/
theorem foldl_pulseEye_of_no_edge {l : List Eye} (hl : l.Nodup) {s : State}
    (h : ∀ e ∈ l, s.rawLevel e ≠ (s.belt.eyes.get e).blocked →
      (s.belt.eyes.get e).count + 1 < s.params.eyeFilter) :
    ∃ eyes : PerEye EyeFilter, (∀ e, eyes.get e = if e ∈ l then pulsedFilter s e else s.belt.eyes.get e) ∧
      l.foldl pulseEye s = { s with belt := { s.belt with eyes := eyes } } := by
  induction l generalizing s with
  | nil => exact ⟨s.belt.eyes, fun e => by simp, rfl⟩
  | cons d l ih =>
    obtain ⟨hd, hl⟩ := List.nodup_cons.mp hl
    have hother {e : Eye} (he : e ∈ l) :
        (setFilter d (pulsedFilter s d) s).belt.eyes.get e = s.belt.eyes.get e := by
      have hne : e ≠ d := fun heq => hd (heq ▸ he)
      simp only [setFilter, onBelt_belt, PerEye.get_set, if_neg hne]
    have hraw (e : Eye) : (setFilter d (pulsedFilter s d) s).rawLevel e = s.rawLevel e :=
      rawLevel_congr rfl rfl e
    obtain ⟨eyes, heyes, hfold⟩ := ih hl (s := setFilter d (pulsedFilter s d) s) fun e he => by
      rw [hraw, hother he]
      exact h e (List.mem_cons_of_mem _ he)
    refine ⟨eyes, fun e => ?_, ?_⟩
    · rw [heyes e]
      by_cases he : e ∈ l
      · rw [if_pos he, if_pos (List.mem_cons_of_mem _ he), pulsedFilter_congr (hraw e) (hother he)]
      · rw [if_neg he]
        simp only [setFilter, onBelt_belt, PerEye.get_set, List.mem_cons, he, or_false]
        exact ite_congr rfl (fun heq => by rw [heq]) fun _ => rfl
    · rw [List.foldl_cons, pulseEye_of_no_edge (h d List.mem_cons_self), hfold]
      rfl

theorem foldl_pulseEye_of_equal {l : List Eye} {s : State}
    (h : ∀ e ∈ l, s.rawLevel e = (s.belt.eyes.get e).blocked) : l.foldl pulseEye s = s := by
  induction l with
  | nil => rfl
  | cons e l ih =>
    rw [List.foldl_cons, pulseEye_of_equal (h e List.mem_cons_self)]
    exact ih fun d hd => h d (List.mem_cons_of_mem _ hd)

/-- A pulse that makes an edge at one eye, the others at their raw level, is that edge. -/
theorem foldl_pulseEye_of_edge {l : List Eye} (hl : l.Nodup) {e : Eye} (he : e ∈ l) {s : State}
    (hne : s.rawLevel e ≠ (s.belt.eyes.get e).blocked)
    (hfilter : s.params.eyeFilter ≤ (s.belt.eyes.get e).count + 1)
    (hothers : ∀ d, d ≠ e → s.rawLevel d = (s.belt.eyes.get d).blocked) :
    l.foldl pulseEye s = makeEdge e s := by
  obtain ⟨l₁, l₂, rfl⟩ := List.append_of_mem he
  obtain ⟨-, htail, hdisjoint⟩ := List.nodup_append.mp hl
  have hbefore : l₁.foldl pulseEye s = s := foldl_pulseEye_of_equal fun d hd =>
    hothers d (hdisjoint d hd e List.mem_cons_self)
  rw [List.foldl_append, hbefore, List.foldl_cons, pulseEye_of_edge hne hfilter]
  refine foldl_pulseEye_of_equal fun d hd => ?_
  have hde : d ≠ e := fun heq => (List.nodup_cons.mp htail).1 (heq ▸ hd)
  have hfirm := (makeEdge_works e s).firm
  rw [rawLevel_congr hfirm.pins hfirm.params, makeEdge_eyes, PerEye.get_set, if_neg hde]
  exact hothers d hde

theorem allEyes_nodup : allEyes.Nodup := by decide

theorem exec_encoderPulse {s : State} (h : s.inReset = false) :
    exec .encoderPulse s = .next (allEyes.foldl pulseEye (pulsePhase s)) :=
  next_of_running h rfl

/-- Settles O37: a pulse counts or raises the phase, then each eye in turn counts it or makes its edge. -/
theorem encoderPulseCountsAndFilters : Obligations.EncoderPulseCountsAndFilters := by
  intro s hrunning run arms outstanding counted uncounted filter
  have hcounted (t : State) : makeCount t = counted t := by
    rw [makeCount_eq]
    simp only [counted, funext (markLapse_eq _ _), funext (markJam_eq _ _)] <;> rfl
  have houtstanding : takeOutstanding s = outstanding s :=
    takeOutstanding_eq_run (run := run) (fun t c u h => by simp only [run, h]) hrunning
  have hphase : pulsePhase s =
      if s.belt.phase + 1 = s.params.prescale then makeCount (takeOutstanding s) else uncounted := rfl
  refine ⟨?_, fun hdue => ?_⟩
  · rw [exec_encoderPulse hrunning, hphase, houtstanding, hcounted] <;> rfl
  · intro t
    have ht : pulsePhase s = t := by
      rw [hphase]
      refine ite_congr rfl (fun hcount => ?_) fun _ => rfl
      rw [takeOutstanding_of_nothingDue (hdue hcount), hcounted]
    obtain ⟨hpins, hparams, heyes⟩ : t.pins = s.pins ∧ t.params = s.params ∧ t.belt.eyes = s.belt.eyes := by
      unfold t
      split <;> exact ⟨rfl, rfl, rfl⟩
    have hraw (e : Eye) : t.rawLevel e = s.rawLevel e := rawLevel_congr hpins hparams e
    refine ⟨fun hcalm => ?_, fun e hne hfilter hothers => ?_⟩
    · obtain ⟨eyes, hget, hfold⟩ := foldl_pulseEye_of_no_edge allEyes_nodup (s := t) fun e _ => by
        rw [hraw, heyes, hparams]
        exact hcalm e
      refine ⟨eyes, fun e => ?_, ?_⟩
      · rw [hget, if_pos (mem_allEyes e), pulsedFilter_congr (hraw e) (congrArg (PerEye.get · e) heyes)]
        rfl
      · rw [exec_encoderPulse hrunning, ht, hfold]
    · have hedge := foldl_pulseEye_of_edge allEyes_nodup (mem_allEyes e) (s := t)
        (by rw [hraw, heyes]; exact hne) (by rw [hparams, heyes]; exact hfilter)
        (fun d hd => by rw [hraw, heyes]; exact hothers d hd)
      rw [exec_encoderPulse hrunning, ht, hedge, makeEdge, hraw, setFilter, State.onBelt, heyes]

end Sys2Proof.Machine
end

section
/-! PROOFS. The Pause Controller and the inputs of the line: the drain test, the latched advance and the release count
(R138, R140, R152), the sources of the pause (R147 to R153), and LINE_STOP (R143 to R145). -/

namespace Sys2Proof.Machine

/-! ### The drain test, the latch and the release count -/

theorem drained_iff {s : State} : s.drained = true ↔ s.capture.list = [] ∧ s.divert.queue = [] := by
  simp only [State.drained, Bool.and_eq_true, List.isEmpty_iff]

theorem drainTest_of_draining {s : State} (h : s.pause.state = .draining) (hdrained : s.drained = true) :
    drainTest s = report { kind := .pauseGranted, detail := s.pause.grantDetail }
      (s.onPause fun c => c.move .held) := if_pos ⟨h, hdrained⟩

theorem drainTest_of_not {s : State} (h : ¬ (s.pause.state = .draining ∧ s.drained = true)) :
    drainTest s = s := if_neg h

theorem grantDetail_eq (c : PauseController) :
    c.grantDetail = match c.controlPause, c.requestAsserted with
      | true, false => 1
      | false, true => 2
      | _, _ => 3 := rfl

/-- The state in which a position release has been counted, R138. -/
def releaseCounted (s : State) : State := s.onWave fun w => { w with releases := bump16 w.releases }

theorem countRelease_of_quiet {s : State}
    (h : s.params.autoWave = 0 ∨ (releaseCounted s).wave.releases < s.params.autoWave ∨
      s.wave.latch ≠ .notHeld) : countRelease s = releaseCounted s := by
  refine if_neg fun ⟨hauto, hreached, hlatch⟩ => ?_
  rcases h with h | h | h
  · exact hauto h
  · exact Nat.not_le.mpr h hreached
  · exact h hlatch

theorem countRelease_of_trigger {s : State} (hauto : s.params.autoWave ≠ 0)
    (hreached : s.params.autoWave ≤ (releaseCounted s).wave.releases) (hlatch : s.wave.latch = .notHeld) :
    countRelease s = if s.pause.state = .held then
        (releaseCounted s).onWave fun w => { w with latch := .automatic }
      else advance 1 (releaseCounted s) :=
  if_pos ⟨hauto, hreached, hlatch⟩

/-- Settles O50: the drain test grants a drained pause, a latch is performed, and the release count triggers at
AUTO_WAVE. -/
theorem drainGrantsAndLatchesArePerformed : Obligations.DrainGrantsAndLatchesArePerformed := by
  intro s
  refine ⟨fun h hlist hqueue => ?_, fun h => drainTest_of_not ?_, ?_, fun h => countRelease_of_quiet h,
    fun hauto hreached hlatch => countRelease_of_trigger hauto hreached hlatch⟩
  · rw [drainTest_of_draining h (drained_iff.mpr ⟨hlist, hqueue⟩), grantDetail_eq] <;> rfl
  · rw [drained_iff]
    rintro ⟨hstate, hlist, hqueue⟩
    rcases h with h | h | h
    · exact h hstate
    · exact h hlist
    · exact h hqueue
  · rfl

/-! ### The sources of the pause -/

/-- A source that leaves what is wanted, or what the pause state already follows, moves nothing, R147. -/
theorem afterSource_of_followed {before : Bool} {s : State} (detail : Nat)
    (h : s.pause.wanted = before ∨ (s.pause.wanted = true ∧ s.pause.state ≠ .running) ∨
      (s.pause.wanted = false ∧ s.pause.state = .running)) : afterSource before detail s = s := by
  rcases h with h | ⟨h, hstate⟩ | ⟨h, hstate⟩
  · cases before <;> simp only [afterSource, h]
  · cases before
    · simp only [afterSource, h, pauseWanted, if_neg hstate]
    · simp only [afterSource, h]
  · cases before
    · simp only [afterSource, h]
    · simp only [afterSource, h, pauseUnwanted, hstate]

theorem afterSource_of_raised {s : State} (detail : Nat) (h : s.pause.wanted = true)
    (hstate : s.pause.state = .running) :
    afterSource false detail s = drainTest (s.onPause fun c => c.move .draining) := by
  simp only [afterSource, h, pauseWanted, if_pos hstate]

theorem afterSource_of_held {s : State} (detail : Nat) (h : s.pause.wanted = false)
    (hstate : s.pause.state = .held) :
    afterSource true detail s = performLatched (s.onPause fun c => c.move .running) := by
  simp only [afterSource, h, pauseUnwanted, hstate]

theorem afterSource_of_draining {s : State} (detail : Nat) (h : s.pause.wanted = false)
    (hstate : s.pause.state = .draining) :
    afterSource true detail s = performLatched (report { kind := .pauseWithdrawn, detail := detail }
      (s.onPause fun c => c.move .running)) := by
  simp only [afterSource, h, pauseUnwanted, hstate]

theorem codeOfPause_eq (st : PauseState) : codeOfPause st = st.code := by
  cases st <;> rfl

section
variable {q : Request} {s t : State} (h : Accepts q s) (hbody : q.body = [])
include h hbody

theorem exec_pause_of (ht : afterSource s.pause.wanted 0 (s.onPause fun c => { c with controlPause := true }) = t) :
    exec (.pause q) s = .next (withResponse 0x60 q .ok (toBytes 1 (codeOfPause t.pause.state)) t) := by
  refine serve_answers h (own := ownPause) ((emptyBody_nil hbody _ s).trans ?_)
  rw [pauseRequest, ht, codeOfPause_eq]
  rfl

theorem exec_resume_of (ht : afterSource s.pause.wanted 0 (s.onPause fun c => { c with controlPause := false }) = t) :
    exec (.resume q) s = .next (withResponse 0x61 q .ok
      (toBytes 1 (codeOfPause t.pause.state) ++ toBytes 1 (flagNat t.pause.requestAsserted)) t) := by
  refine serve_answers h (own := ownResume) ((emptyBody_nil hbody _ s).trans ?_)
  rw [resumeRequest, ht, codeOfPause_eq]
  rfl

end

theorem pauseReqInput_of_same {level : Bool} {s : State} (h : s.pins.pauseReq = level) :
    pauseReqInput level s = s := by
  subst h
  simp only [pauseReqInput, bne_self_eq_false, Bool.false_eq_true, false_and, if_false]
  rfl

theorem pauseReqInput_of_changed {level : Bool} {s : State} (h : s.pins.pauseReq ≠ level)
    (hrunning : s.inReset = false) :
    pauseReqInput level s = afterSource s.pause.wanted 1
      { s with
        pins := { s.pins with pauseReq := level }
        pause := { s.pause with requestAsserted := level } } :=
  if_pos ⟨bne_iff_ne.mpr h, hrunning⟩

theorem PauseController.wanted_of_both {c : PauseController} (hrequest : c.requestAsserted = false)
    (hcontrol : c.controlPause = false) : c.wanted = false := by
  rw [PauseController.wanted, hrequest, hcontrol, Bool.or_self]

theorem PauseController.wanted_of_control {c : PauseController} (h : c.controlPause = true) : c.wanted = true := by
  rw [PauseController.wanted, h, Bool.or_true]

theorem PauseController.wanted_of_request {c : PauseController} (h : c.requestAsserted = true) :
    c.wanted = true := by
  rw [PauseController.wanted, h, Bool.true_or]

section
variable {q : Request} {s : State} (h : Accepts q s) (hbody : q.body = [])
include h hbody

theorem exec_pause_of_followed
    (hidle : s.pause.requestAsserted = true ∨ s.pause.controlPause = true ∨ s.pause.state ≠ .running) :
    exec (.pause q) s = .next (withResponse 0x60 q .ok (toBytes 1 (codeOfPause s.pause.state))
      { s with pause := { s.pause with controlPause := true } }) := by
  refine exec_pause_of h hbody (afterSource_of_followed 0 ?_)
  have hwanted : (s.onPause fun c => { c with controlPause := true }).pause.wanted = true :=
    PauseController.wanted_of_control rfl
  rcases hidle with hrequest | hcontrol | hstate
  · exact .inl (hwanted.trans (PauseController.wanted_of_request hrequest).symm)
  · exact .inl (hwanted.trans (PauseController.wanted_of_control hcontrol).symm)
  · exact .inr (.inl ⟨hwanted, hstate⟩)

theorem exec_pause_of_running (hrequest : s.pause.requestAsserted = false)
    (hcontrol : s.pause.controlPause = false) (hstate : s.pause.state = .running) :
    let t := drainTest
      { s with
        pause :=
          { s.pause with
            controlPause := true, state := .draining, inductHold := true, pauseAck := false } }
    exec (.pause q) s =
      .next (withResponse 0x60 q .ok (toBytes 1 (codeOfPause t.pause.state)) t) := by
  refine exec_pause_of h hbody ?_
  rw [PauseController.wanted_of_both hrequest hcontrol]
  exact afterSource_of_raised 0 (PauseController.wanted_of_control rfl) hstate

theorem exec_resume_of_followed
    (hidle : s.pause.requestAsserted = true ∨ s.pause.controlPause = false ∨ s.pause.state = .running) :
    exec (.resume q) s = .next (withResponse 0x61 q .ok
      (toBytes 1 (codeOfPause s.pause.state) ++ toBytes 1 (flagNat s.pause.requestAsserted))
      { s with pause := { s.pause with controlPause := false } }) := by
  refine exec_resume_of h hbody (afterSource_of_followed 0 ?_)
  have hwanted : (s.onPause fun c => { c with controlPause := false }).pause.wanted =
      s.pause.requestAsserted := Bool.or_false _
  rcases hidle with hrequest | hcontrol | hstate
  · exact .inl (hwanted.trans (hrequest.trans (PauseController.wanted_of_request hrequest).symm))
  · rw [hwanted, PauseController.wanted, hcontrol, Bool.or_false]
    exact .inl rfl
  · rw [hwanted]
    cases hrequest : s.pause.requestAsserted
    · exact .inr (.inr ⟨rfl, hstate⟩)
    · exact .inl (PauseController.wanted_of_request hrequest).symm

/-- The state a RESUME leaves when it ends the pause, R149 and R153. -/
theorem exec_resume_of_paused (hcontrol : s.pause.controlPause = true) {t : State}
    (ht : afterSource true 0 (s.onPause fun c => { c with controlPause := false }) = performLatched t)
    (hpause : t.pause.state = .running ∧ t.pause.requestAsserted = false) :
    exec (.resume q) s = .next (withResponse 0x61 q .ok [0x00, 0x00] (performLatched t)) := by
  have hexec := exec_resume_of h hbody (t := performLatched t)
    (by rw [PauseController.wanted_of_control hcontrol]; exact ht)
  rwa [performLatched_pause, hpause.1, hpause.2] at hexec

end

/-- Settles O49: where a source changes what is wanted, the pause state follows it. -/
theorem pauseFollowsItsSources : Obligations.PauseFollowsItsSources := by
  have asserted {s t : State} (hrunning : s.inReset = false) (hpin : s.pins.pauseReq = false)
      (ht : afterSource s.pause.wanted 1
        { s with
          pins := { s.pins with pauseReq := true }
          pause := { s.pause with requestAsserted := true } } = t) : exec .pauseReqAssert s = .next t :=
    congrArg Host.Outcome.next ((pauseReqInput_of_changed (by simp [hpin]) hrunning).trans ht)
  have released {s t : State} (hrunning : s.inReset = false) (hpin : s.pins.pauseReq = true)
      (ht : afterSource s.pause.wanted 1
        { s with
          pins := { s.pins with pauseReq := false }
          pause := { s.pause with requestAsserted := false } } = t) : exec .pauseReqRelease s = .next t :=
    congrArg Host.Outcome.next ((pauseReqInput_of_changed (by simp [hpin]) hrunning).trans ht)
  refine ⟨fun q s h hbody => ⟨exec_pause_of_followed h hbody, exec_pause_of_running h hbody,
      exec_resume_of_followed h hbody, fun hrequest hcontrol => ⟨fun hstate => ?held, fun hstate => ?draining⟩⟩,
    fun s => ⟨fun hpin => congrArg Host.Outcome.next (pauseReqInput_of_same hpin),
      fun hpin => congrArg Host.Outcome.next (pauseReqInput_of_same hpin),
      fun hrunning hpin hrequest => ⟨fun hidle => asserted hrunning hpin (afterSource_of_followed 1 ?raiseIdle),
        fun hcontrol hstate => asserted hrunning hpin ?raise⟩,
      fun hrunning hpin hrequest => ⟨fun hidle => released hrunning hpin (afterSource_of_followed 1 ?lowerIdle),
        fun hcontrol => ⟨fun hstate => released hrunning hpin ?lowerHeld,
          fun hstate => released hrunning hpin ?lowerDraining⟩⟩⟩⟩
  case held =>
    exact exec_resume_of_paused h hbody hcontrol
      (afterSource_of_held 0 (PauseController.wanted_of_both hrequest rfl) hstate) ⟨rfl, hrequest⟩
  case draining =>
    refine exec_resume_of_paused h hbody hcontrol
      (afterSource_of_draining 0 (PauseController.wanted_of_both hrequest rfl) hstate) ?_
    rw [report_pause]
    exact ⟨rfl, hrequest⟩
  case raiseIdle =>
    rcases hidle with hcontrol | hstate
    · exact .inl ((PauseController.wanted_of_request rfl).trans
        (PauseController.wanted_of_control hcontrol).symm)
    · exact .inr (.inl ⟨PauseController.wanted_of_request rfl, hstate⟩)
  case raise =>
    rw [PauseController.wanted_of_both hrequest hcontrol]
    exact afterSource_of_raised 1 (PauseController.wanted_of_request rfl) hstate
  case lowerIdle =>
    cases hcontrol : s.pause.controlPause
    · exact .inr (.inr ⟨PauseController.wanted_of_both rfl hcontrol,
        hidle.resolve_left (Bool.eq_false_iff.mp hcontrol)⟩)
    · exact .inl ((PauseController.wanted_of_control (c := { s.pause with requestAsserted := false })
        hcontrol).trans (PauseController.wanted_of_control hcontrol).symm)
  case lowerHeld =>
    rw [PauseController.wanted_of_request hrequest]
    exact afterSource_of_held 1 (PauseController.wanted_of_both rfl hcontrol) hstate
  case lowerDraining =>
    rw [PauseController.wanted_of_request hrequest]
    exact afterSource_of_draining 1 (PauseController.wanted_of_both rfl hcontrol) hstate

/-! ### The LINE_STOP input -/

theorem lineStopInput_of_same {level : Bool} {s : State} (h : s.pins.lineStop = level) :
    lineStopInput level s = s := by
  subst h
  simp only [lineStopInput, bne_self_eq_false, Bool.false_eq_true, false_and, if_false]
  rfl

theorem lineStopInput_of_changed {level : Bool} {s : State} (h : s.pins.lineStop ≠ level)
    (hrunning : s.inReset = false) :
    lineStopInput level s =
      if level then stopAsserted (s.onPins fun p => { p with lineStop := level })
      else stopReleased (s.onPins fun p => { p with lineStop := level }) :=
  if_pos ⟨bne_iff_ne.mpr h, hrunning⟩

theorem stopReleased_of_kept {s : State} (h : s.params.autoRearm = false) :
    stopReleased s = report { kind := .lineRelease, detail := 0 }
      (s.onPause fun c => { c with stopAsserted := false }) := if_pos h

theorem stopReleased_of_rearmed {s : State} (h : s.params.autoRearm = true)
    (hgeometry : geometryConsistent s.params = true) :
    stopReleased s = report { kind := .lineRelease, detail := 1 }
      (setArmsLive (s.onPause fun c => { c with stopAsserted := false })) :=
  (if_neg (Bool.not_eq_false _ ▸ h)).trans (if_pos hgeometry)

theorem stopReleased_of_inconsistent {s : State} (h : s.params.autoRearm = true)
    (hgeometry : geometryConsistent s.params = false) :
    stopReleased s = report { kind := .lineRelease, detail := 2 }
      (s.onPause fun c => { c with stopAsserted := false }) :=
  (if_neg (Bool.not_eq_false _ ▸ h)).trans (if_neg (Bool.eq_false_iff.mp hgeometry))

/-- Settles O51: an assertion clears a set ARMS_LIVE and is reported; a release sets it again by AUTO_REARM. -/
theorem lineStopClearsArmsLive : Obligations.LineStopClearsArmsLive := by
  intro s
  have asserted {t : State} (hrunning : s.inReset = false) (hpin : s.pins.lineStop = false)
      (ht : stopAsserted (s.onPins fun p => { p with lineStop := true }) = t) :
      exec .lineStopAssert s = .next t :=
    congrArg Host.Outcome.next ((lineStopInput_of_changed (by simp [hpin]) hrunning).trans ht)
  have released {t : State} (hrunning : s.inReset = false) (hpin : s.pins.lineStop = true)
      (ht : stopReleased (s.onPins fun p => { p with lineStop := false }) = t) :
      exec .lineStopRelease s = .next t :=
    congrArg Host.Outcome.next ((lineStopInput_of_changed (by simp [hpin]) hrunning).trans ht)
  refine ⟨fun hpin => congrArg Host.Outcome.next (lineStopInput_of_same hpin),
    fun hpin => congrArg Host.Outcome.next (lineStopInput_of_same hpin),
    fun hrunning hpin => ⟨fun hlive => asserted hrunning hpin ?_, fun hlive => asserted hrunning hpin ?_⟩,
    fun hrunning hpin => ⟨fun hauto => released hrunning hpin (stopReleased_of_kept hauto),
      fun hauto hgeometry => released hrunning hpin (stopReleased_of_rearmed hauto hgeometry),
      fun hauto hgeometry => released hrunning hpin (stopReleased_of_inconsistent hauto hgeometry)⟩⟩
  · simp only [stopAsserted, onPins_divert, hlive, Bool.false_eq_true, if_false]
    rfl
  · simp only [stopAsserted, onPins_divert, hlive, if_true]
    rfl

end Sys2Proof.Machine
end

section
/-! PROOFS. The Placement Engine: what a candidate is and its seven tests (R73 to R78), the outcomes of a decision (R82,
R83), and the entries it appends (R84, R89, R91, R98). -/

namespace Sys2Proof.Machine

/-! ### Candidates -/

theorem kindFor_eq_some_iff {l : RecipeLine} {group : Nat} {k : Kind} :
    l.kindFor group = some k ↔ l.reserved + l.placed < l.quantity ∧
      ((k = .primary ∧ l.primary = group) ∨
        (k = .substitute ∧ l.primary ≠ group ∧ l.substitute = some group)) := by
  have hremaining : l.remaining = 0 ↔ ¬ l.reserved + l.placed < l.quantity := by
    unfold RecipeLine.remaining
    omega
  unfold RecipeLine.kindFor
  split
  · rename_i h
    simp [hremaining.mp h]
  · rename_i h
    have hroom : l.reserved + l.placed < l.quantity := Classical.not_not.mp fun hn => h (hremaining.mpr hn)
    split
    · rename_i hp
      cases k <;> simp [hroom, hp]
    · rename_i hp
      split
      · rename_i hsub
        cases k <;> simp [hroom, hp, hsub]
      · rename_i hsub
        cases k <;> simp [hp, hsub]

theorem mem_candidates_spelled {s : State} {group : Nat} {c : Candidate} : c ∈ candidates s group ↔
    c.order ∈ s.book.orders ∧ c.order.state = .opened ∧
      c.order.position = some (c.lane, c.position) ∧ s.divert.laneStates.get c.lane = .enabled ∧
      ∃ l, c.order.lines[c.line]? = some l ∧ l.reserved + l.placed < l.quantity ∧
        ((c.kind = .primary ∧ l.primary = group) ∨
          (c.kind = .substitute ∧ l.primary ≠ group ∧ l.substitute = some group)) := by
  simp only [mem_candidates_iff, mem_orderCandidates_iff, kindFor_eq_some_iff, State.laneEnabled, beq_iff_eq,
    true_and]

/-! ### The tests -/

theorem highestLayer_le_iff {counts : List Nat} {n l : Nat} :
    highestLayer counts n ≤ l ↔ ∀ i, i < n → counts.getD i 0 ≠ 0 → i ≤ l := by
  induction n with
  | zero => simp [highestLayer]
  | succ n ih =>
    unfold highestLayer
    split
    · rename_i hn
      exact ⟨fun hle i hi _ => Nat.le_trans (Nat.lt_succ_iff.mp hi) hle, fun h => h n (Nat.lt_succ_self n) hn⟩
    · rename_i hn
      rw [ih]
      refine ⟨fun h i hi hcount => ?_, fun h i hi => h i (Nat.lt_succ_of_lt hi)⟩
      rcases Nat.lt_succ_iff_lt_or_eq.mp hi with hlt | rfl
      · exact h i hlt hcount
      · exact absurd hcount hn

theorem layerLevel_le_iff {o : Order} {l : Nat} :
    o.layerLevel ≤ l ↔ (∀ m, o.placedLayer = some m → m ≤ l) ∧
      ∀ i, i < 4 → o.layerCounts.getD i 0 ≠ 0 → i ≤ l := by
  have hplaced : o.placedLayer.getD 0 ≤ l ↔ ∀ m, o.placedLayer = some m → m ≤ l := by
    cases o.placedLayer <;> simp
  rw [Order.layerLevel, Nat.max_le, hplaced, highestLayer_le_iff]

theorem mem_firePositions {s : State} {a : Arm} {g : Pos} :
    g ∈ s.firePositions a ↔ ∃ e ∈ s.divert.queue, e.dest.arm = some a ∧ e.state = .scheduled g := by
  simp only [State.firePositions, List.mem_filterMap, List.mem_filter]
  constructor
  · rintro ⟨e, ⟨he, hon⟩, hg⟩
    have hstate : e.state = .scheduled g := by
      unfold Entry.firePosition at hg
      split at hg <;> simp_all
    simp only [Entry.scheduledOn, Bool.and_eq_true, beq_iff_eq] at hon
    obtain ⟨harm, -⟩ := hon
    exact ⟨e, he, harm, hstate⟩
  · rintro ⟨e, he, harm, hstate⟩
    refine ⟨e, ⟨he, ?_⟩, by simp only [Entry.firePosition, hstate]⟩
    simp only [Entry.scheduledOn, Entry.isScheduled, harm, hstate, beq_self_eq_true, Bool.and_true]

theorem spaced_iff {s : State} {a : Arm} {f : Pos} :
    s.spaced a f = true ↔
      (∀ e ∈ s.divert.queue, ∀ g, e.dest.arm = some a → e.state = .scheduled g →
        s.params.armGap ≤ min (g - f).toNat (f - g).toNat) ∧
      ∀ l, (s.divert.arms.get a).lastFire = some l → s.params.armGap ≤ (f - l).toNat := by
  have hlast : ((s.divert.arms.get a).lastFire.map fun l => decide (s.params.armGap ≤ ahead l f)).getD true = true ↔
      ∀ l, (s.divert.arms.get a).lastFire = some l → s.params.armGap ≤ (f - l).toNat := by
    cases (s.divert.arms.get a).lastFire with
    | none => simp
    | some l =>
      simp only [Option.map_some, Option.getD_some, Option.some.injEq, forall_eq']
      exact decide_eq_true_iff
  rw [State.spaced, Bool.and_eq_true, hlast, List.all_eq_true]
  refine and_congr_left fun _ => ⟨fun h e he g harm hstate =>
    of_decide_eq_true (h g (mem_firePositions.mpr ⟨e, he, harm, hstate⟩)), fun h g hg => ?_⟩
  obtain ⟨e, he, harm, hstate⟩ := mem_firePositions.mp hg
  exact decide_eq_true (h e he g harm hstate)

theorem reachable_iff {s : State} {f : Pos} {dist : Nat} :
    s.reachable f dist = true ↔ s.params.lead ≤ (f - s.belt.p).toNat ∧ (f - s.belt.p).toNat ≤ dist := by
  simp only [State.reachable, Bool.and_eq_true, decide_eq_true_eq]
  rfl

section
variable {c : Candidate} {s : State}

theorem layerFits_iff {layer : Nat} :
    c.layerFits s layer = true ↔ (classEntry s c.order.cls).layerRule = false ∨
      c.order.layerLevel ≤ layer := by
  simp only [Candidate.layerFits, Bool.or_eq_true, Bool.not_eq_true', decide_eq_true_eq]

theorem lasts_iff {dated : Bool} {bestBefore : Nat} :
    c.lasts s dated bestBefore = true ↔ dated = false ∨ (bestBefore ≠ 0xFFFF ∧
      c.order.dispatchDay + (classEntry s c.order.cls).shelfDays ≤ bestBefore) := by
  simp only [Candidate.lasts, absent16, Bool.or_eq_true, Bool.not_eq_true', Bool.and_eq_true, bne_iff_ne,
    decide_eq_true_eq]

theorem chuteFits_iff : c.chuteFits s = true ↔ s.committed c.lane < s.params.chuteCap.get c.lane :=
  decide_eq_true_iff

theorem weightFits_iff {w : Nat} :
    c.weightFits w = true ↔ c.order.reservedWeight + c.order.placedWeight + w ≤ c.order.budget :=
  decide_eq_true_iff

end

theorem classEntry_eq (s : State) (cls : Nat) :
    classEntry s cls = (s.ranges.classes[cls]?).getD { shelfDays := 0, layerRule := true } :=
  List.getD_eq_getElem?_getD

/-- Settles O42: membership and each of the seven tests, spelled out. -/
theorem candidatesAndTheirSevenTests : Obligations.CandidatesAndTheirSevenTests := by
  refine ⟨fun s group c => mem_candidates_spelled, fun s c x => ?_⟩
  simp only [Candidate.qualifies, Candidate.passesRest, Bool.and_eq_true, Option.isNone_iff_eq_none,
    weightFits_iff, layerFits_iff, layerLevel_le_iff, lasts_iff, chuteFits_iff, Candidate.reaches,
    Candidate.spaced, reachable_iff, spaced_iff, and_assoc, classEntry_eq] <;> rfl

/-! ### Appended entries -/

theorem appendEntry_of_later {e : Entry} {s : State} {f : Pos} (he : e.state = .scheduled f)
    (hf : f ≠ s.belt.p) : appendEntry e s = joinBelt (e.withExit s) s := by
  cases ha : e.dest.arm with
  | none => simp only [appendEntry, he, ha, joinBelt, Entry.withExit]
  | some a => exact (appendEntry_of_scheduled he ha).trans (if_neg hf)

theorem appendEntry_of_now {e : Entry} {s : State} {a : Arm} (he : e.state = .scheduled s.belt.p)
    (ha : e.dest.arm = some a) : appendEntry e s = fireArm a (joinBelt (e.withExit s) s) :=
  (appendEntry_of_scheduled he ha).trans (if_pos rfl)

theorem exited_of_outbound {e : Entry} {r : OutboundReason} (he : e.state = .outbound r) (s : State) :
    exited e s = passOf e.carrier r (count .recirculations s) := by
  simp only [exited, Entry.outboundReason, he]

theorem rejectFits_iff {s : State} {lead : Pos} :
    let f : Pos := lead + BitVec.ofNat 16 s.params.rejectDist
    s.rejectFits lead = true ↔ s.divert.rejectJammed = false ∧
      s.params.lead ≤ (f - s.belt.p).toNat ∧ (f - s.belt.p).toNat ≤ s.params.rejectDist ∧
      (∀ x ∈ s.divert.queue, ∀ g, x.dest.arm = some .reject → x.state = .scheduled g →
        s.params.armGap ≤ min (g - f).toNat (f - g).toNat) ∧
      ∀ l, (s.divert.arms.get .reject).lastFire = some l → s.params.armGap ≤ (f - l).toNat := by
  simp only [State.rejectFits, Bool.and_eq_true, Bool.not_eq_true', reachable_iff, spaced_iff, and_assoc] <;> rfl

theorem rejectItem_of_fits {e : Entry} {s : State} (h : s.rejectFits e.lead = true) (r : RejectReason) :
    rejectItem e r s = appendEntry
      { e with dest := .reject r, state := .scheduled (beyond e.lead s.params.rejectDist) }
      (count .rejectsDecided s) := by
  simp only [rejectItem, h, if_true]

theorem rejectItem_of_blocked {e : Entry} {s : State} (h : ¬ s.rejectFits e.lead = true) (r : RejectReason) :
    rejectItem e r s = appendEntry { e with dest := .reject r, state := .outbound .rejectBlocked }
      (count .rejectsDecided s) := by
  simp only [rejectItem, if_neg h]

/-- Settles O46: a reject is SCHEDULED where it fits; an appended entry joins the tail, is fired at once at P, or exits
at once past EXIT_DIST. -/
theorem rejectsAndEntriesAreAppended : Obligations.RejectsAndEntriesAreAppended := by
  refine ⟨fun e r s => ⟨rejectFits_iff, fun h => rejectItem_of_fits (rejectFits_iff.mpr h) r,
      fun h => rejectItem_of_blocked (mt rejectFits_iff.mp h) r⟩,
    fun e s => ⟨fun f he hf => appendEntry_of_later he hf, fun a he ha hnone => ?_,
      fun r he => ⟨fun hyoung => (appendEntry_of_outbound he).trans (if_neg (Nat.not_le.mpr hyoung)),
        fun hold => ?_⟩⟩⟩
  · rw [appendEntry_of_now he ha,
      fireArm_of_split (s := joinBelt (e.withExit s) s) (pre := s.divert.queue) (post := []) rfl ha he hnone]
    rfl
  · rw [(appendEntry_of_outbound he).trans (if_pos hold), exited_of_outbound (e := e.withExit s) he, passOf_eq]
      <;> rfl

/-! ### The outcomes of candidate formation -/

theorem isClassRefusal_iff {s : State} {x : Subject} {cs : List Candidate} :
    isClassRefusal s x cs = true ↔ cs ≠ [] ∧ ∀ c ∈ cs,
      (refusalCause s x.scan.stock c.order.cls c.kind).isSome = true ∧ c.passesRest s x = true := by
  simp only [isClassRefusal, Bool.and_eq_true, Bool.not_eq_true', List.all_eq_true, ne_eq,
    ← List.isEmpty_iff, Bool.not_eq_true, Candidate.classCause]

theorem before_iff {c d : Candidate} :
    c.before d = true ↔ c.order.slot < d.order.slot ∨ (c.order.slot = d.order.slot ∧ c.line < d.line) := by
  simp only [Candidate.before, Bool.or_eq_true, Bool.and_eq_true, decide_eq_true_eq, beq_iff_eq]

/-- The first candidate by slot and line index, in a book that keeps its law. -/
theorem BookLaw.best_before_eq_some_iff {s : State} (h : BookLaw s) {group : Nat} {c : Candidate} :
    best Candidate.before (candidates s group) = some c ↔
      c ∈ candidates s group ∧ ∀ d ∈ candidates s group, d ≠ c → c.before d = true := by
  refine best_eq_some_iff (fun a => ?_) (fun a b c hab hbc => ?_) fun a ha b hb hne => ?_
  · rw [← Bool.not_eq_true, before_iff]
    omega
  · rw [before_iff] at hab hbc ⊢
    omega
  · have hapart : ¬(a.order.slot = b.order.slot ∧ a.line = b.line) :=
      fun ⟨hslot, hline⟩ => hne (h.candidate_eq ha hb hslot hline)
    rw [before_iff, before_iff]
    omega

section
variable {x : Subject} {s : State}

theorem placeOrRecirculate_of_winner {c : Candidate}
    (h : winner s x (candidates s x.product.group) = some c) : placeOrRecirculate x s = place c x s := by
  simp only [placeOrRecirculate, h]

theorem placeOrRecirculate_of_no_winner (h : winner s x (candidates s x.product.group) = none) :
    placeOrRecirculate x s = unplaceable x (candidates s x.product.group) s := by
  simp only [placeOrRecirculate, h]

theorem unplaceable_of_not_refused {cs : List Candidate} (h : ¬ isClassRefusal s x cs = true) :
    unplaceable x cs s = recirculate x.entry .unplaceable s := by
  simp only [unplaceable, if_neg h]

theorem unplaceable_of_refused {cs : List Candidate} {c : Candidate} {cause : Cause}
    (h : isClassRefusal s x cs = true) (hc : best Candidate.before cs = some c)
    (hcause : refusalCause s x.scan.stock c.order.cls c.kind = some cause) :
    unplaceable x cs s = recirculate x.entry .unplaceable (classRefusal c cause x.scan s) := by
  simp only [unplaceable, if_pos h, hc, Candidate.classCause, hcause]

end

/-- Settles O45: a winner is placed; without one the item recirculates, behind the class refusal of the first
candidate where every candidate failed the class test alone. -/
theorem placeReservesElseRecirculates : Obligations.PlaceReservesElseRecirculates := by
  intro x s
  refine ⟨fun c hc => placeOrRecirculate_of_winner hc,
    fun hnone hkept => (placeOrRecirculate_of_no_winner hnone).trans
      (unplaceable_of_not_refused (mt isClassRefusal_iff.mp hkept)),
    fun c cause hnone hrefused hbook hc hfirst hcause => ?_⟩
  have hbest : best Candidate.before (candidates s x.product.group) = some c :=
    hbook.best_before_eq_some_iff.mpr ⟨hc, fun d hd hne => before_iff.mpr (hfirst d hd hne)⟩
  exact (placeOrRecirculate_of_no_winner hnone).trans
    (unplaceable_of_refused (isClassRefusal_iff.mpr hrefused) hbest hcause)

end Sys2Proof.Machine
end

section
/-! PROOFS. The steps of a placement decision in their sequence (R63 to R72). -/

namespace Sys2Proof.Machine

/-! ### What a decision is handed -/

theorem goodRead_of_none {it : Item} (h : it.scan = none ∨ ∃ sc, it.scan = some sc ∧ sc.status ≠ 0) :
    it.goodRead = none := by
  unfold Item.goodRead
  rcases h with h | ⟨sc, h, hstatus⟩
  · rw [h]
  · rw [h]
    exact if_neg hstatus

theorem goodRead_of_some {c : Capture} {sc : Scan} (h : sc.status = 0) :
    Item.goodRead { capture := c, scan := some sc } = some sc := if_pos h

theorem reportNoRead_of_none {it : Item} (h : it.goodRead = none) (s : State) :
    reportNoRead it s = count .noReads (report
      { kind := .noRead, detail := if it.scan = none then 0 else 1
        carrier := (it.scan.map (·.carrier)).getD 0 } s) := by
  rcases it with ⟨c, scan⟩
  cases scan <;> simp [reportNoRead, h]

theorem reportNoRead_of_some {it : Item} {sc : Scan} (h : it.goodRead = some sc) (s : State) :
    reportNoRead it s = s := by
  simp only [reportNoRead, h]

theorem reportNoRead_divert (it : Item) (s : State) : (reportNoRead it s).divert = s.divert := by
  unfold reportNoRead
  split <;> simp

theorem reportNoRead_params (it : Item) (s : State) : (reportNoRead it s).params = s.params := by
  unfold reportNoRead
  split <;> simp

/-! ### The steps -/

section
variable {it : Item} {s : State}

theorem placementDecision_of_full (h : 48 ≤ s.divert.queue.length) :
    placementDecision it s = beltQueueFull it (reportNoRead it s) := by
  rw [← reportNoRead_divert it] at h
  exact if_pos h

theorem placementDecision_of_dark (h : s.divert.queue.length < 48) (harms : s.divert.armsLive = false) :
    placementDecision it s = recirculate it.entry .armsOff (reportNoRead it s) := by
  rw [← reportNoRead_divert it] at h harms
  exact (if_neg (Nat.not_le.mpr h)).trans (if_pos harms)

theorem placementDecision_of_noRead (h : s.divert.queue.length < 48) (harms : s.divert.armsLive = true)
    (hread : it.goodRead = none) : placementDecision it s = noReadStep it (reportNoRead it s) := by
  rw [← reportNoRead_divert it] at h harms
  have harms' : ¬ (reportNoRead it s).divert.armsLive = false := by simp [harms]
  rw [placementDecision]
  simp only [if_neg (show ¬ Config.beltQueue ≤ (reportNoRead it s).divert.queue.length from
    Nat.not_le.mpr h), if_neg harms', hread]

theorem placementDecision_of_read (h : s.divert.queue.length < 48) (harms : s.divert.armsLive = true)
    {sc : Scan} (hread : it.goodRead = some sc) : placementDecision it s = doubleStep it sc s := by
  have harms' : ¬ s.divert.armsLive = false := by simp [harms]
  rw [placementDecision, reportNoRead_of_some hread]
  simp only [if_neg (show ¬ Config.beltQueue ≤ s.divert.queue.length from Nat.not_le.mpr h),
    if_neg harms', hread]

end

theorem doubleDetail_of_long {c : Capture} {limit : Nat}
    (h : ∀ p, c.trail = some p → limit < (p - c.lead).toNat) :
    doubleDetail c limit = some (if c.trail = none then 0 else 1) := by
  rcases c with ⟨tag, lead, trail⟩
  cases trail with
  | none => rfl
  | some p => exact if_pos (h p rfl)

theorem doubleDetail_of_short {c : Capture} {limit : Nat}
    (h : ¬ ∀ p, c.trail = some p → limit < (p - c.lead).toNat) : doubleDetail c limit = none := by
  rcases c with ⟨tag, lead, trail⟩
  cases trail with
  | none => exact absurd (fun p hp => by cases hp) h
  | some p => exact if_neg fun hlong => h fun q hq => by cases hq; exact hlong

theorem weightDiff_eq (a b : Nat) : weightDiff a b = ((a : Int) - b).natAbs := by
  unfold weightDiff
  omega

theorem passLimit_eq (s : State) (carrier : Nat) :
    s.passLimit carrier =
      if carrier = 0 then none
      else ((s.recirc.find? fun r => r.carrier == carrier).map (·.passes)).filter fun n =>
        decide (s.params.maxPasses ≤ n) := by
  unfold State.passLimit
  refine ite_congr rfl (fun _ => rfl) fun _ => ?_
  cases s.recirc.find? fun r => r.carrier == carrier with
  | none => rfl
  | some r => by_cases h : s.params.maxPasses ≤ r.passes <;> simp [h, Option.filter]

theorem entry_of_noRead {it : Item} (h : it.goodRead = none) :
    it.entry =
      { tag := it.capture.tag, lead := it.capture.lead, exitAt := 0, stock := none
        carrier := none, group := none, layer := none
        weight :=
          match it.scan with
          | none => none
          | some sc =>
            if sc.weight = 0xFFFF then none else some { grams := sc.weight, estimated := false }
        dest := .recirculate .unplaceable, state := .outbound .unplaceable } := by
  rw [Item.entry, h]
  cases it.scan <;> rfl

theorem entry_of_read {c : Capture} {sc : Scan} (h : sc.status = 0) :
    Item.entry { capture := c, scan := some sc } =
      { tag := c.tag, lead := c.lead, exitAt := 0, stock := some sc.stock
        carrier := some sc.carrier, group := none, layer := none
        weight :=
          if sc.weight = 0xFFFF then none else some { grams := sc.weight, estimated := false }
        dest := .recirculate .unplaceable, state := .outbound .unplaceable } := by
  rw [Item.entry, goodRead_of_some h]
  rfl

section
variable {it : Item} {e : Entry} {r : Product} {sc : Scan} {s : State}

theorem doubleStep_of_long (h : ∀ p, it.capture.trail = some p → s.params.maxLen < (p - it.capture.lead).toNat) :
    doubleStep it sc s = rejectReported it.entry .double .doubleItem
      (if it.capture.trail = none then 0 else 1) sc (count .doubles s) := by
  rw [doubleStep, doubleDetail_of_long h]

theorem doubleStep_of_short
    (h : ¬ ∀ p, it.capture.trail = some p → s.params.maxLen < (p - it.capture.lead).toNat) :
    doubleStep it sc s = catalogueStep it.entry sc s := by
  rw [doubleStep, doubleDetail_of_short h]

theorem catalogueStep_of_unknown (h : lookup sc.stock s.catalogue = none) :
    catalogueStep e sc s = rejectReported e .unknownItem .unknownItem 0 sc (count .unknownItems s) := by
  rw [catalogueStep, h]

theorem catalogueStep_of_known (h : lookup sc.stock s.catalogue = some r) :
    catalogueStep e sc s = weightStep { e with group := some r.group, layer := some r.layer } r sc s := by
  rw [catalogueStep, h]

theorem weightStep_of_unmeasured (h : sc.weight = 0xFFFF) :
    weightStep e r sc s = passLimitStep
      { entry := { e with weight := some { grams := r.nominal, estimated := true } }
        product := r, scan := sc, grams := r.nominal } (count .weightEstimated s) := if_pos h

theorem weightStep_of_mismatch (h : sc.weight ≠ 0xFFFF)
    (hapart : r.nominal * r.tolerance / 100 < ((sc.weight : Int) - r.nominal).natAbs) :
    weightStep e r sc s = rejectReported e .weightMismatch .weightMismatch
      (if r.nominal < sc.weight then 0 else 1) sc (count .weightMismatches s) := by
  rw [← weightDiff_eq] at hapart
  exact (if_neg h).trans (if_pos hapart)

theorem weightStep_of_measured (h : sc.weight ≠ 0xFFFF)
    (hclose : ((sc.weight : Int) - r.nominal).natAbs ≤ r.nominal * r.tolerance / 100) :
    weightStep e r sc s =
      passLimitStep { entry := e, product := r, scan := sc, grams := sc.weight } s := by
  rw [← weightDiff_eq] at hclose
  exact (if_neg h).trans (if_neg (Nat.not_lt.mpr hclose))

end

theorem noReadStep_of_recirculate {it : Item} {s : State} (h : s.params.noReadAction = .recirculate) :
    noReadStep it s = recirculate it.entry .noRead s := by
  rw [noReadStep, h]

theorem noReadStep_of_reject {it : Item} {s : State} (h : s.params.noReadAction = .reject) :
    noReadStep it s = rejectItem it.entry .noRead s := by
  rw [noReadStep, h]

/-- Settles O44: each step settles the item where those before it pass. -/
theorem decisionStepsSettleInSequence : Obligations.DecisionStepsSettleInSequence := by
  refine ⟨fun it s hscan => ?noRead, fun c sc s hstatus => ?read⟩
  case noRead =>
    have hread := goodRead_of_none hscan
    have hreport := reportNoRead_of_none hread s
    refine ⟨fun hfull => ?_, fun hroom hdark => ?_, fun hroom hlive haction => ?_,
      fun hroom hlive haction => ?_⟩
    · rw [placementDecision_of_full hfull, beltQueueFull, hread, hreport]
      rfl
    · rw [placementDecision_of_dark hroom hdark, entry_of_noRead hread, hreport]
      rfl
    · rw [placementDecision_of_noRead hroom hlive hread,
        noReadStep_of_recirculate ((congrArg _ (reportNoRead_params it s)).trans haction),
        entry_of_noRead hread, hreport]
      rfl
    · rw [placementDecision_of_noRead hroom hlive hread,
        noReadStep_of_reject ((congrArg _ (reportNoRead_params it s)).trans haction),
        entry_of_noRead hread, hreport]
      rfl
  case read =>
    intro it entry event long passes
    have hread : it.goodRead = some sc := goodRead_of_some hstatus
    have hentry : it.entry = { entry with
        dest := .recirculate .unplaceable, state := .outbound .unplaceable } := entry_of_read hstatus
    have hpasses : passes = s.passLimit sc.carrier := (passLimit_eq s sc.carrier).symm
    refine ⟨fun hfull => ?_, fun hroom hdark => ?_, fun hroom hlive =>
      ⟨fun hlong => ?_, fun hshort hunknown => ?_, fun r hshort hknown => ?_⟩⟩
    · rw [placementDecision_of_full hfull, beltQueueFull, hread, reportNoRead_of_some hread]
      rfl
    · rw [placementDecision_of_dark hroom hdark, reportNoRead_of_some hread, hentry]
      rfl
    · rw [placementDecision_of_read hroom hlive hread, doubleStep_of_long hlong, hentry]
      rfl
    · rw [placementDecision_of_read hroom hlive hread, doubleStep_of_short hshort,
        catalogueStep_of_unknown hunknown, hentry]
      rfl
    · have hweigh : placementDecision it s =
          weightStep { it.entry with group := some r.group, layer := some r.layer } r sc s :=
        (placementDecision_of_read hroom hlive hread).trans
          ((doubleStep_of_short hshort).trans (catalogueStep_of_known hknown))
      rw [hweigh, hentry, hpasses]
      refine ⟨fun hmeasured hapart => ?_, fun hmeasured hclose => ?_, fun hunmeasured => ?_⟩
      · rw [weightStep_of_mismatch hmeasured hapart]
        rfl
      · rw [weightStep_of_measured hmeasured hclose, passLimitStep]
        cases s.passLimit sc.carrier <;> rfl
      · rw [weightStep_of_unmeasured hunmeasured, passLimitStep]
        have hsame : (count .weightEstimated s).passLimit sc.carrier = s.passLimit sc.carrier := rfl
        rw [hsame]
        cases s.passLimit sc.carrier <;> rfl

end Sys2Proof.Machine
end

section
/-! PROOFS. The keys of the put wall (R118 to R121, R127, R21), and the laws at the reset state. -/

namespace Sys2Proof.Machine

/-! ### Keys -/

section
variable {n : Lane} {position : Nat} {s : State}

theorem headTarget_of_head {e : ChuteEntry} {rest : List ChuteEntry} (h : s.wall.chutes.get n = e :: rest) :
    s.headTarget n = some e.kind.target := by
  simp only [State.headTarget, h, List.head?_cons, Option.map_some]

theorem keyPress_of_target {e : ChuteEntry} {rest : List ChuteEntry} (h : s.wall.chutes.get n = e :: rest)
    (ht : e.kind.target = position) : keyPress n position s = takeHead n e rest s := by
  simp only [keyPress, h, if_pos ht]

theorem keyPress_of_other (h : s.headTarget n ≠ some position) :
    keyPress n position s = releaseOrWrong n position s := by
  cases hl : s.wall.chutes.get n with
  | nil => simp only [keyPress, hl]
  | cons e rest =>
    have hne : ¬ e.kind.target = position := fun heq => h (heq ▸ headTarget_of_head hl)
    simp only [keyPress, hl, if_neg hne]

theorem takeHead_of_put {e : ChuteEntry} {p slot line : Nat} (he : e.kind = .put p slot line)
    (rest : List ChuteEntry) :
    takeHead n e rest s = count .puts (confirm slot line ((e.weight.map (·.grams)).getD 0) (e.layer.getD 0)
      (setChute n rest s)) := by
  simp only [takeHead, he]

theorem takeHead_of_other {e : ChuteEntry} (he : e.kind = .void ∨ e.kind = .stray) (rest : List ChuteEntry) :
    takeHead n e rest s = setChute n rest s := by
  rcases he with he | he <;> simp only [takeHead, he]

/-- A position shows CLOSE or CLEAR where a COMPLETE or CANCELLED order is bound and the head does not target
it, R116. -/
theorem light_of_settled (h : s.headTarget n ≠ some position) (hp : position ≠ 0) {o : Order}
    (ho : s.book.boundAt n position = some o) (hstate : o.state = .complete ∨ o.state = .cancelled) :
    light s n position = .close ∨ light s n position = .clear := by
  rw [light_of_bound h hp ho]
  rcases hstate with hstate | hstate <;> rw [hstate]
  · exact .inl rfl
  · exact .inr rfl

theorem light_of_unsettled (h : s.headTarget n ≠ some position)
    (hnone : position = 0 ∨ ∀ o, s.book.boundAt n position = some o →
      o.state ≠ .complete ∧ o.state ≠ .cancelled) : light s n position = .off := by
  by_cases hp : position = 0
  · exact light_of_return h hp
  · cases ho : s.book.boundAt n position with
    | none => exact light_of_free h ho
    | some o =>
      obtain ⟨hcomplete, hcancelled⟩ := hnone.resolve_left hp o ho
      rw [light_of_bound h hp ho]
      cases hstate : o.state <;> simp_all

theorem releaseOrWrong_of_settled (h : light s n position = .close ∨ light s n position = .clear) :
    releaseOrWrong n position s = positionRelease n position s := by
  rcases h with h | h <;> simp only [releaseOrWrong, h]

theorem releaseOrWrong_of_off (h : light s n position = .off) :
    releaseOrWrong n position s = wrongKey n position s := by
  simp only [releaseOrWrong, h]

theorem positionRelease_of_bound {o : Order} (ho : s.book.boundAt n position = some o) :
    positionRelease n position s =
      runBinder (countRelease ((report (releaseReport n position o) s).onBook fun b => b.empty o)) := by
  simp only [positionRelease, ho]

/-- A wrong key touches neither the Order Book nor the chutes, so no light changes. -/
theorem relight_wrongKey : relight s (wrongKey n position s) = wrongKey n position s :=
  relight_of_same fun i _ => congrFun (lightAt_congr (by simp [wrongKey]) (by simp [wrongKey])) i

end

theorem laneFrame_of_key {lane position : Byte} {n : Lane} (hlane : lane.toNat = laneNumber n)
    (hposition : position.toNat ≤ 15) (s : State) :
    laneFrame lane 0x02 position 0x00 s = relight s (keyPress n position.toNat s) := by
  have hkey : position ≠ 0xFF := by
    rintro rfl
    exact absurd hposition (by decide)
  simp only [laneFrame, hlane, laneOf_laneNumber, hposition, true_or, and_true, if_true, if_neg hkey, withLights]

theorem laneFrame_of_refresh {lane : Byte} {n : Lane} (hlane : lane.toNat = laneNumber n) (s : State) :
    laneFrame lane 0x02 0xFF 0x00 s = panelRefresh n s := by
  simp only [laneFrame, hlane, laneOf_laneNumber]
  rfl

theorem mem_panelOfLane {n : Lane} {i : Nat} :
    i ∈ (List.range 16).map (panelIndex n) ↔ i / 16 + 1 = laneNumber n := by
  obtain ⟨hlow, -⟩ := laneNumber_bounds n
  simp only [List.mem_map, List.mem_range, panelIndex]
  constructor
  · rintro ⟨p, hp, rfl⟩
    omega
  · intro h
    exact ⟨i % 16, by omega, by omega⟩

/-- Settles O47: a key takes the head it targets, releases a position that shows CLOSE or CLEAR, or is wrong; position
0xFF marks the lane. -/
theorem keysTakeHeadsAndReleasePositions : Obligations.KeysTakeHeadsAndReleasePositions := by
  intro lane position n s hrunning hrx hlane key taken
  have hexec {t : State} (ht : laneFrame lane 0x02 position 0x00 s = t) : exec key s = .next t :=
    exec_laneFrame hrunning ((laneBytes_good hrx lane 0x02 position 0x00).trans ht)
  have hkey {t : State} (hposition : position.toNat ≤ 15) (ht : keyPress n position.toNat s = t) :
      exec key s = .next (relight s t) :=
    hexec ((laneFrame_of_key hlane hposition s).trans (congrArg (relight s) ht))
  refine ⟨fun e rest p slot line hl he hp hpos => hkey (hpos ▸ hp) ?put,
    fun e rest hl he hpos => hkey (by simp [hpos]) ?other,
    fun o hlow hhigh hhead ho hstate => hkey hhigh ?settled,
    fun hhigh hhead hnone => ?wrong, fun hpos => ?refresh⟩
  case put =>
    have ht : e.kind.target = position.toNat := by rw [he, hpos]; rfl
    rw [keyPress_of_target hl ht, takeHead_of_put he]
    rfl
  case other =>
    have ht : e.kind.target = position.toNat := by
      rw [hpos]
      rcases he with he | he <;> rw [he] <;> rfl
    rw [keyPress_of_target hl ht, takeHead_of_other he]
    rfl
  case settled =>
    rw [keyPress_of_other hhead, releaseOrWrong_of_settled
      (light_of_settled hhead (Nat.ne_of_gt hlow) ho hstate), positionRelease_of_bound ho, State.onBook,
      report_book]
    rfl
  case wrong =>
    have hzero : position = 0 ↔ position.toNat = 0 := BitVec.toNat_eq
    have hwrong : keyPress n position.toNat s = wrongKey n position.toNat s :=
      (keyPress_of_other hhead).trans
        (releaseOrWrong_of_off (light_of_unsettled hhead (hnone.imp_left hzero.mp)))
    rw [hkey hhigh hwrong, relight_wrongKey, wrongKey, ite_congr (propext hzero) (fun _ => rfl) fun _ => rfl]
  case refresh =>
    subst hpos
    refine ⟨s.wall.mark ((List.range 16).map (panelIndex n)), hexec (laneFrame_of_refresh hlane s),
      fun i => ?_, rfl⟩
    rw [mem_mark, mem_panelOfLane]

/-! ### The reset state -/

theorem linkLaw_reset : LinkLaw State.reset :=
  ⟨Nat.zero_le _, by decide, nofun, nofun, nofun⟩

theorem statusLaw_reset : StatusLaw State.reset := by
  have hzero : ∀ v ∈ State.reset.status.counters, v = 0 := by decide
  exact ⟨by decide, rfl, fun v hv => hzero v hv ▸ Nat.zero_le _⟩

theorem wallLaw_reset : WallLaw State.reset :=
  ⟨fun _ hi => List.mem_range.mp (List.mem_filter.mp hi).1, nofun⟩

theorem pauseLaw_reset : PauseLaw State.reset :=
  ⟨by decide, by decide, by decide, fun _ => rfl, fun _ => rfl, nofun⟩

theorem armsLaw_reset : ArmsLaw State.reset := by
  refine ⟨fun _ a => ?_, fun _ e he => absurd he List.not_mem_nil, nofun, nofun, fun _ => rfl⟩
  simp [State.reset, DivertScheduler.reset, ArmRec.reset]

theorem claims_reset (slot : Nat) : claims State.reset slot = [] := rfl

theorem accountsLaw_reset : AccountsLaw State.reset :=
  ⟨nofun, nofun, nofun, nofun, nofun, nofun, fun i h => absurd (claims_reset i) h⟩

theorem chuteLaw_reset : ChuteLaw State.reset := by
  refine ⟨fun n => ?_, fun n => ?_⟩ <;> cases n <;> decide

theorem captureLaw_reset : CaptureLaw State.reset :=
  ⟨Nat.zero_le _, .nil, nofun, Nat.zero_le _⟩

theorem recircLaw_reset : RecircLaw State.reset := ⟨Nat.zero_le _, .nil, nofun⟩

/-- Settles O53: at the reset state every list is empty, every arm at rest, and every parameter in its range. -/
theorem lawsHoldAtReset : Obligations.LawsHoldAtReset :=
  ⟨linkLaw_reset, statusLaw_reset, wallLaw_reset, pauseLaw_reset, armsLaw_reset, .of_catalogue_nil rfl,
    paramsLaw_reset, eyesLaw_at_rest rfl rfl, bookLaw_iff.mpr bookReset_sound, accountsLaw_reset,
    chuteLaw_reset, captureLaw_reset, recircLaw_reset, scheduleLaw_of_empty rfl⟩

end Sys2Proof.Machine
end

section
/-! PROOFS. What an accepted SET_PARAM stores and what the blocks do at the write (R181). -/

namespace Sys2Proof.Machine

/-! ### The value used -/

theorem bounds_ordered {s : State} (h : ParamsLaw s) (q : Param) :
    (q.bounds s.params).1 ≤ (q.bounds s.params).2 := by
  obtain ⟨-, hle, -⟩ := h.armDwell
  obtain ⟨hlt, hmax⟩ := h.pairMax
  cases q
  case armGap => exact Nat.le_trans hle (show 255 ≤ 1023 by decide)
  case pairMax => exact Nat.lt_of_lt_of_le hlt hmax
  case maxLen => exact Nat.min_le_right _ _
  all_goals simp only [Param.bounds, Nat.reduceLeDiff, Nat.zero_le]

theorem clampIn_eq_used {s : State} (h : ParamsLaw s) {q : Param} {v : Nat}
    (hchoice : q.isChoice = true → v ≤ 1) : q.clampIn s.params v = q.used s.params v := by
  have hordered := bounds_ordered h q
  cases q
  case laneClasses | reportMask => rfl
  case maxLen =>
    simp only [Param.clampIn, Param.used, Param.bounds]
    split
    · omega
    · rw [clamp_eq (by omega)]
      omega
  case capturePolarity | lanePolarity | defaultAllow | noReadAction | autoRearm =>
    have hv : v ≤ 1 := hchoice rfl
    simp only [Param.clampIn, Param.used, Param.bounds]
    omega
  all_goals exact clamp_eq hordered v

theorem used_bounds {s : State} (h : ParamsLaw s) (q : Param) (v : Nat) :
    (q.bounds s.params).1 ≤ q.used s.params v ∧ q.used s.params v ≤ (q.bounds s.params).2 := by
  have hordered := bounds_ordered h q
  cases q
  case laneClasses n => exact ⟨Nat.zero_le _, Nat.le_of_lt_succ (Nat.mod_lt v (by decide))⟩
  case reportMask => exact ⟨Nat.zero_le _, Nat.le_of_lt_succ (Nat.mod_lt v (by decide))⟩
  all_goals exact ⟨Nat.le_max_left _ _, Nat.max_le.mpr ⟨hordered, Nat.min_le_left _ _⟩⟩

/-! ### What is stored -/

theorem read_store_of_ne {q r : Param} (hr : r ≠ q) (hcarries : q.carries r = false) (p : Params) (v : Nat) :
    (p.store v q).read r = p.read r := by
  cases q
  case laneDist n =>
    cases r with
    | laneDist m => exact (PerLane.get_set _ _ _ _).trans (if_neg fun h => hr (congrArg _ h))
    | _ => rfl
  case chuteCap n =>
    cases r with
    | chuteCap m => exact (PerLane.get_set _ _ _ _).trans (if_neg fun h => hr (congrArg _ h))
    | _ => rfl
  case laneClasses n =>
    cases r with
    | laneClasses m =>
      exact congrArg BitVec.toNat ((PerLane.get_set _ _ _ _).trans (if_neg fun h => hr (congrArg _ h)))
    | _ => rfl
  case armDwell =>
    cases r with
    | armDwell => exact absurd rfl hr
    | armGap => cases hcarries
    | _ => rfl
  case pairMin =>
    cases r with
    | pairMin => exact absurd rfl hr
    | pairMax | maxLen => cases hcarries
    | _ => rfl
  all_goals cases r
  any_goals exact absurd rfl hr
  all_goals rfl

theorem store_lockLevel (p : Params) (v : Nat) (q : Param) : (p.store v q).lockLevel = p.lockLevel := by
  cases q <;> rfl

theorem read_store_self {s : State} (h : ParamsLaw s) (q : Param) (v : Nat) :
    (s.params.store (q.used s.params v) q).read q = q.used s.params v := by
  have hbounds := used_bounds h q v
  cases q
  case laneDist n | chuteCap n => simp [Params.read, Params.store]
  case laneClasses n => simp [Params.read, Params.store, Param.used]
  case reportMask => simp [Params.read, Params.store, Param.used]
  case controlNode | tunnelNode =>
    obtain ⟨-, hle⟩ := hbounds
    exact (BitVec.toNat_ofNat _ _).trans (Nat.mod_eq_of_lt (Nat.lt_of_le_of_lt hle (show 0xFE < 2 ^ 8 by decide)))
  case capturePolarity | lanePolarity | defaultAllow | noReadAction | autoRearm =>
    obtain ⟨-, hle⟩ := hbounds
    rcases Nat.le_one_iff_eq_zero_or_eq_one.mp hle with hused | hused <;> rw [hused] <;> rfl
  all_goals rfl

/-! ### The answer -/

theorem dependantChanged_eq_false_iff {a b : Params} {q : Param} :
    dependantChanged a b q = false ↔ (q = .armDwell → b.armGap = a.armGap) ∧
      (q = .pairMin → b.pairMax = a.pairMax ∧ b.maxLen = a.maxLen) := by
  cases q
  case armDwell =>
    simp only [dependantChanged, bne_eq_false_iff_eq, forall_const, reduceCtorEq, false_implies, and_true]
    exact eq_comm
  case pairMin =>
    simp only [dependantChanged, Bool.or_eq_false_iff, bne_eq_false_iff_eq, forall_const, reduceCtorEq,
      false_implies, true_and]
    exact and_congr eq_comm eq_comm
  all_goals simp [dependantChanged]

theorem dependantBytes_eq (p : Params) (q : Param) :
    dependantBytes p q = if q = .armDwell then toBytes 4 p.armGap
      else if q = .pairMin then toBytes 4 p.pairMax ++ toBytes 4 p.maxLen else [] := by
  cases q <;> rfl

theorem result_of_iff {b : Bool} {P : Prop} [Decidable P] (h : b = false ↔ P) :
    (if b then Result.adjusted else .ok) = if P then .ok else .adjusted := by
  cases b with
  | false => rw [if_pos (h.mp rfl), if_neg Bool.false_ne_true]
  | true => rw [if_neg (mt h.mpr (fun h => by cases h)), if_pos rfl]

theorem writeParam_eq {q : Param} {v used : Nat} {s : State} {ps : Params}
    (hused : q.clampIn s.params v = used) (hps : s.params.store used q = ps) (id index : Nat) :
    writeParam q id index v s =
      { state := paramWritten q { s with params := ps }
        result := if used = v ∧ (q = .armDwell → ps.armGap = s.params.armGap) ∧
            (q = .pairMin → ps.pairMax = s.params.pairMax ∧ ps.maxLen = s.params.maxLen)
          then .ok else .adjusted
        body := toBytes 1 id ++ toBytes 1 index ++ toBytes 4 used ++
          (if q = .armDwell then toBytes 4 ps.armGap
            else if q = .pairMin then toBytes 4 ps.pairMax ++ toBytes 4 ps.maxLen else []) } := by
  subst hused
  subst hps
  rw [writeParam, Answer.done, dependantBytes_eq]
  congr 1
  exact result_of_iff (by rw [Bool.or_eq_false_iff, bne_eq_false_iff_eq, dependantChanged_eq_false_iff])

/-! ### What the blocks do at the write -/

/-- The sweep as a run of expiries, one for each capture held, R55. -/
theorem sweepAll_eq_foldl {expire : State → State} (h : ∀ t, expire t = expireHead t) (s : State) :
    sweepAll s = (List.range s.capture.list.length).foldl (fun u _ => expire u) s := by
  rw [show (fun u (_ : Nat) => expire u) = fun u _ => expireHead u from funext fun u => funext fun _ => h u,
    foldl_expireHead, List.length_range]
  rfl

/-- Settles O15: the value used is stored with its dependants, and the blocks act on the parameters so stored. -/
theorem setParamStoresValueUsed : Obligations.SetParamStoresValueUsed := by
  intro q s p h hlaw hlength hnamed hchoice hlock harms hload settle expire chutes written
  have hused : p.clampIn s.params (q.num 2 4) = p.used s.params (q.num 2 4) := clampIn_eq_used hlaw hchoice
  have hsettle : (fun t e => settleEye e t) = settle := rfl
  have hchutes : allArms.map Eye.chute = chutes := rfl
  have heyes : allEyes = Eye.cap :: chutes := rfl
  have hexpire (t : State) : expire t = expireHead t := by
    simp only [expire, expireHead] <;> rfl
  have hwritten (t : State) : paramWritten p t = written t := by
    cases p
    case lanePolarity =>
      simp only [paramWritten, written]
      rw [hsettle, hchutes]
    case eyeFilter =>
      simp only [paramWritten, written]
      rw [hsettle, heyes]
      rfl
    case pairMax => exact sweepAll_eq_foldl hexpire t
    all_goals rfl
  have hwrite : ownSetParam q.body s = writeParam p (q.num 0 1) (q.num 1 1) (q.num 2 4) s := by
    rw [ownSetParam_of_named hlength hnamed]
    refine (checkedWrite_of_settable hchoice hlock harms).trans (if_neg ?_)
    rw [hused, hload]
    exact Bool.false_ne_true
  obtain ⟨hlow, hhigh⟩ := used_bounds hlaw p (q.num 2 4)
  have hread := read_store_self hlaw p (q.num 2 4)
  refine ⟨s.params.store (p.used s.params (q.num 2 4)) p, ?_, hread, Nat.le_trans hlow (Nat.le_of_eq hread.symm),
    Nat.le_trans (Nat.le_of_eq hread) hhigh, fun r hr hcarries => read_store_of_ne hr hcarries _ _,
    store_lockLevel _ _ _, fun hp => ?_, fun hp => ?_⟩
  · rw [← hwritten]
    exact serve_answers h (own := ownSetParam) (hwrite.trans (writeParam_eq hused rfl _ _))
  · subst hp
    rfl
  · subst hp
    exact ⟨rfl, rfl⟩

end Sys2Proof.Machine
end
